-- ==== Sys2Proof/Word.lean ====
section
/-!
DEFINITION. The two bit-vector types of the block (00_scope R8, 30_encoding R71 and R72).
-/

namespace Sys2Proof

/-- A byte: eight bits, always unsigned (00_scope R8). -/
abbrev Byte := BitVec 8

/-- A command word or a response word: forty bits (30_encoding R71, R72). -/
abbrev Word := BitVec 40

end Sys2Proof
end

