-- ==== Sys2Proof/Syntax.lean ====
section
/-!
DEFINITION. The seventeen operations of 30_encoding R73 with the operand bytes each uses. Operand fields an operation
does not use are no part of it (R75).
-/

namespace Sys2Proof

/-- One operation of the block (30_encoding R73). Every operand is a byte of the command word (R74). -/
inductive Instr where
  /-- `SYS.NOP` (44_system_ops R200). -/
  | sysNop
  /-- `SYS.RESET` (44_system_ops R201). -/
  | sysReset
  /-- `CKS.COMPUTE A, B, C, D`: the four envelope bytes (40_checksum_codec R101). -/
  | cksCompute (startFlag moduleAddress commandId payloadLength : Byte)
  /-- `CKS.VERIFY A`: buffer select, 0 `RXBUF`, 1 `TXBUF` (40_checksum_codec R102). -/
  | cksVerify (select : Byte)
  /-- `PKT.ENCODE A, B` (41_packet_framer R120). -/
  | pktEncode (moduleAddress commandId : Byte)
  /-- `TX.READ A` (41_packet_framer R121). -/
  | txRead (index : Byte)
  /-- `RX.CLEAR` (41_packet_framer R122). -/
  | rxClear
  /-- `RX.PUSH A` (41_packet_framer R123). -/
  | rxPush (byte : Byte)
  /-- `PKT.DECODE` (41_packet_framer R124). -/
  | pktDecode
  /-- `RX.READ A` (41_packet_framer R125). -/
  | rxRead (index : Byte)
  /-- `RSM.START A, B`: expected frame count, command in flight (42_frame_reassembler R151). -/
  | rsmStart (count command : Byte)
  /-- `RSM.FEED` (42_frame_reassembler R152). -/
  | rsmFeed
  /-- `RSM.STATUS` (42_frame_reassembler R154). -/
  | rsmStatus
  /-- `ACC.READ A` (42_frame_reassembler R155). -/
  | accRead (offset : Byte)
  /-- `CFG.SET A, B, C, D`: cell count, sensor count, enable bits 7:0, enable bit 8 in bit 0
  (43_command_dispatch_mux R183). -/
  | cfgSet (cells sensors enableLow enableHigh : Byte)
  /-- `CFG.READ` (43_command_dispatch_mux R184). -/
  | cfgRead
  /-- `MUX.LOOKUP A`: telemetry group id (43_command_dispatch_mux R185). -/
  | muxLookup (group : Byte)
  deriving DecidableEq, Repr

end Sys2Proof
end

