-- ==== Sys2Proof/Decode.lean ====
section
/-!
DEFINITION. The decoder, total on all 2^40 command words and refusing an unassigned opcode by name (30_encoding R71,
R73, R76), and after it the encoder, written from the same operation map.
-/

namespace Sys2Proof

/-- Bits 39:32 of a command word (30_encoding R71). -/
def fieldOp (w : Word) : Byte := w.extractLsb' 32 8

/-- Bits 31:24 of a command word (30_encoding R71). -/
def fieldA (w : Word) : Byte := w.extractLsb' 24 8

/-- Bits 23:16 of a command word (30_encoding R71). -/
def fieldB (w : Word) : Byte := w.extractLsb' 16 8

/-- Bits 15:8 of a command word (30_encoding R71). -/
def fieldC (w : Word) : Byte := w.extractLsb' 8 8

/-- Bits 7:0 of a command word (30_encoding R71). -/
def fieldD (w : Word) : Byte := w.extractLsb' 0 8

/-- Why a command word is no operation. -/
inductive DecodeError where
  /-- One of the 239 values of `op` that 30_encoding R76 leaves unassigned. -/
  | unassignedOpcode (op : Byte)
  deriving DecidableEq, Repr

/-- Decoding is by the whole `op` byte; operand fields an operation does not use are ignored (30_encoding R73, R75). -/
def decode (w : Word) : Except DecodeError Instr :=
  match fieldOp w with
  | 0x00#8 => .ok .sysNop
  | 0x01#8 => .ok .sysReset
  | 0x10#8 => .ok (.cksCompute (fieldA w) (fieldB w) (fieldC w) (fieldD w))
  | 0x11#8 => .ok (.cksVerify (fieldA w))
  | 0x20#8 => .ok (.pktEncode (fieldA w) (fieldB w))
  | 0x21#8 => .ok (.txRead (fieldA w))
  | 0x22#8 => .ok .rxClear
  | 0x23#8 => .ok (.rxPush (fieldA w))
  | 0x24#8 => .ok .pktDecode
  | 0x25#8 => .ok (.rxRead (fieldA w))
  | 0x30#8 => .ok (.rsmStart (fieldA w) (fieldB w))
  | 0x31#8 => .ok .rsmFeed
  | 0x32#8 => .ok .rsmStatus
  | 0x33#8 => .ok (.accRead (fieldA w))
  | 0x40#8 => .ok (.cfgSet (fieldA w) (fieldB w) (fieldC w) (fieldD w))
  | 0x41#8 => .ok .cfgRead
  | 0x42#8 => .ok (.muxLookup (fieldA w))
  | op => .error (.unassignedOpcode op)

/-- The instruction whose command word has the bits of `w`, bit 0 of `w` being bit 0 of the word. A command word is
always 40 bits (30_encoding R77), so a row shorter than that has zeros above, and a longer number is no command
(assumption log 12). -/
def decodeTableWord (nbits w : Nat) : Option Instr :=
  if w % 2 ^ nbits < 2 ^ 40 then (decode (BitVec.ofNat 40 (w % 2 ^ nbits))).toOption else none

/-- The word of five bytes, most significant first: `{op, A, B, C, D}` of a command (30_encoding R71) and
`{status, R0, R1, R2, R3}` of a response (R72). -/
def packWord (op a b c d : Byte) : Word := op ++ a ++ b ++ c ++ d

/-- The `op` byte of an operation (30_encoding R73). -/
def opcode : Instr → Byte
  | .sysNop => 0x00#8
  | .sysReset => 0x01#8
  | .cksCompute _ _ _ _ => 0x10#8
  | .cksVerify _ => 0x11#8
  | .pktEncode _ _ => 0x20#8
  | .txRead _ => 0x21#8
  | .rxClear => 0x22#8
  | .rxPush _ => 0x23#8
  | .pktDecode => 0x24#8
  | .rxRead _ => 0x25#8
  | .rsmStart _ _ => 0x30#8
  | .rsmFeed => 0x31#8
  | .rsmStatus => 0x32#8
  | .accRead _ => 0x33#8
  | .cfgSet _ _ _ _ => 0x40#8
  | .cfgRead => 0x41#8
  | .muxLookup _ => 0x42#8

/-- The command word of an operation; unused operand fields assemble to 0x00 (30_encoding R71, R73, R78). -/
def encode (i : Instr) : Word :=
  match i with
  | .cksCompute a b c d => packWord (opcode i) a b c d
  | .cfgSet a b c d => packWord (opcode i) a b c d
  | .pktEncode a b => packWord (opcode i) a b 0 0
  | .rsmStart a b => packWord (opcode i) a b 0 0
  | .cksVerify a => packWord (opcode i) a 0 0 0
  | .txRead a => packWord (opcode i) a 0 0 0
  | .rxPush a => packWord (opcode i) a 0 0 0
  | .rxRead a => packWord (opcode i) a 0 0 0
  | .accRead a => packWord (opcode i) a 0 0 0
  | .muxLookup a => packWord (opcode i) a 0 0 0
  | .sysNop => packWord (opcode i) 0 0 0 0
  | .sysReset => packWord (opcode i) 0 0 0 0
  | .rxClear => packWord (opcode i) 0 0 0 0
  | .pktDecode => packWord (opcode i) 0 0 0 0
  | .rsmFeed => packWord (opcode i) 0 0 0 0
  | .rsmStatus => packWord (opcode i) 0 0 0 0
  | .cfgRead => packWord (opcode i) 0 0 0 0

/-- The bits of a command word an operation looks at: `op` and its used operand fields; the rest are the "-" cells
of 30_encoding R73, which R75 says are ignored. -/
def usedBits : Instr → Word
  | .cksCompute _ _ _ _ => 0xFFFFFFFFFF#40
  | .cfgSet _ _ _ _ => 0xFFFFFFFFFF#40
  | .pktEncode _ _ => 0xFFFFFF0000#40
  | .rsmStart _ _ => 0xFFFFFF0000#40
  | .cksVerify _ => 0xFFFF000000#40
  | .txRead _ => 0xFFFF000000#40
  | .rxPush _ => 0xFFFF000000#40
  | .rxRead _ => 0xFFFF000000#40
  | .accRead _ => 0xFFFF000000#40
  | .muxLookup _ => 0xFFFF000000#40
  | .sysNop => 0xFF00000000#40
  | .sysReset => 0xFF00000000#40
  | .rxClear => 0xFF00000000#40
  | .pktDecode => 0xFF00000000#40
  | .rsmFeed => 0xFF00000000#40
  | .rsmStatus => 0xFF00000000#40
  | .cfgRead => 0xFF00000000#40

end Sys2Proof
end

