-- ==== Sys2Proof/Config.lean ====
section
/-!
DEFINITION. What one instance of the hardware fixes: the named parameters of 00_scope R4 and R5 at their values
for this hardware, the closed enumeration of telemetry groups (43_command_dispatch_mux R180), the open command-code
table (R181) and the free value an unwritten buffer byte reads as (10_state R37).
-/

namespace Sys2Proof

/-- The nine telemetry groups, in the order of their group ids 0 to 8 (43_command_dispatch_mux R180). -/
inductive TelemetryGroup where
  | soc
  | minmaxCellV
  | minmaxTemp
  | mosStatus
  | statusInfo1
  | cellVoltages
  | cellTemps
  | cellBalance
  | failureStatus
  deriving DecidableEq, Repr

/-- The three private address spaces of the block (20_memory R50). -/
inductive Buffer where
  | tx
  | rx
  | acc
  deriving DecidableEq, Repr

/-- PAYLOAD_SIZE (00_scope R4). The literals of R4 are unaudited in the source (R7): assumption log 3. -/
def Config.payloadSize : Nat := 8

/-- PKT_SIZE = 4 + PAYLOAD_SIZE + 1 (00_scope R4). -/
def Config.pktSize : Nat := 4 + Config.payloadSize + 1

/-- START_FLAG (00_scope R4). -/
def Config.startFlag : Byte := 0xA5#8

/-- SEQ_FIRST (00_scope R4). -/
def Config.seqFirst : Nat := 0

/-- SEQ_SENTINEL (00_scope R4). -/
def Config.seqSentinel : Byte := 0xFF#8

/-- MAX_STRINGS (00_scope R4). -/
def Config.maxStrings : Nat := 48

/-- MAX_SENSORS (00_scope R4). -/
def Config.maxSensors : Nat := 16

/-- IPF_CELLV (00_scope R4). -/
def Config.ipfCellV : Nat := 3

/-- IPF_TEMP (00_scope R4). -/
def Config.ipfTemp : Nat := 7

/-- N_GROUPS (00_scope R4). -/
def Config.nGroups : Nat := 9

/-- FRAME_DATA = PAYLOAD_SIZE - 1 (00_scope R5). -/
def Config.frameData : Nat := Config.payloadSize - 1

/-- MAX_FRAMES: the largest frame count a legal configuration can need (00_scope R5). -/
def Config.maxFrames : Nat :=
  max ((Config.maxStrings + Config.ipfCellV - 1) / Config.ipfCellV)
    ((Config.maxSensors + Config.ipfTemp - 1) / Config.ipfTemp)

/-- ACC_SIZE = MAX_FRAMES * FRAME_DATA (00_scope R5). -/
def Config.accSize : Nat := Config.maxFrames * Config.frameData

/-- CMD_CODE[g], the open read-only table of command codes (43_command_dispatch_mux R181; 92_eei_decisions D18).
Nothing constrains it: the spec's default 0x90 + g is not relied on (assumption log 2). -/
opaque Config.cmdCode : TelemetryGroup → Byte

/-- What a buffer byte that nothing has written since reset reads as (10_state R37, 70_reset_and_hazards R241): a
free value, which no gate of the block lets a response show (assumption log 1). -/
opaque Config.residue : Buffer → Nat → Byte

end Sys2Proof
end

