-- ==== Sys2Proof/Machine/State.lean ====
section
/-!
DEFINITION. The state of the block as plain data: the thirteen items of 10_state R20 and the ports of 30_encoding R80,
the ways a step can stop, and the state after reset (10_state R38).
-/

namespace Sys2Proof.Machine

/-- The written bytes of one address space: index and byte, indices strictly rising (`Memory.wf`). An index that is
not listed has not been written since reset. -/
abbrev Memory := List Host.Cell

/-- The reassembler's states (10_state R30). -/
inductive RsmState where
  /-- No exchange has been started since reset. -/
  | idle
  /-- An exchange is open; frame number `rsm_next` is the only acceptable next frame. -/
  | await
  /-- `rsm_expected` frames were accepted; the reassembled bytes are readable. -/
  | complete
  /-- A frame was rejected; terminal until the next `RSM.START` or reset. -/
  | failed
  deriving DecidableEq, Repr

/-- The error kinds of 60_exceptions R210. -/
inductive ErrorKind where
  /-- Reserved for the host; the block never reports it (60_exceptions R211). -/
  | transportError
  | frameFormatError
  /-- Reserved for the host; the block reports a mismatch as data (60_exceptions R213). -/
  | checksumError
  | sequenceError
  | configurationError
  | usageError
  deriving DecidableEq, Repr

/-- What the host drives on the input ports at one step: `rst`, `cmd_valid` and `cmd` (30_encoding R80). -/
structure PortIn where
  rst : Bool
  cmdValid : Bool
  cmd : Word
  deriving DecidableEq, Repr

/-- What one sample of the input ports asks of the block (30_encoding R80, 70_reset_and_hazards R240). -/
inductive PortEvent where
  /-- Nothing is presented. -/
  | quiet
  /-- `rst` is asserted. -/
  | reset
  /-- A command word is taken. -/
  | command (w : Word)
  deriving DecidableEq, Repr

/-- The block and its ports. -/
structure State where
  /-- `TXBUF` (10_state R21). -/
  tx : Memory
  /-- `tx_valid` (10_state R22). -/
  txValid : Bool
  /-- `RXBUF` (10_state R23). -/
  rx : Memory
  /-- `rx_count` (10_state R24). -/
  rxCount : BitVec 4
  /-- `ACC` (10_state R25). -/
  acc : Memory
  /-- `cfg_valid` (10_state R26). -/
  cfgValid : Bool
  /-- `cfg_cells` (10_state R27). -/
  cfgCells : BitVec 6
  /-- `cfg_sensors` (10_state R28). -/
  cfgSensors : BitVec 5
  /-- `cfg_enable` (10_state R29). -/
  cfgEnable : BitVec 9
  /-- `rsm_state` (10_state R30). -/
  rsmState : RsmState
  /-- `rsm_next` (10_state R31). -/
  rsmNext : BitVec 5
  /-- `rsm_expected` (10_state R32). -/
  rsmExpected : BitVec 5
  /-- `rsm_cmd` (10_state R33). -/
  rsmCmd : Byte
  /-- The samples the host presents on the input ports, oldest first (30_encoding R80; assumption log 4). -/
  inputs : List PortIn
  /-- `rsp_valid` (30_encoding R80; assumption log 6). -/
  rspValid : Bool
  /-- `rsp` (30_encoding R72, R80; assumption log 6). -/
  rsp : Word
  deriving DecidableEq, Repr

/-- Why a step stops with a fault. -/
inductive Fault where
  /-- Raised by `RSM.FEED` when the frame it would accept has its place outside `ACC`. 00_scope R9 gives `MemWrite`
  no meaning there and 42_frame_reassembler R156 shows it does not happen; no state that meets the invariants of
  10_state R39 raises it. Safe (assumption log 9). -/
  | accOverrun
  deriving DecidableEq, Repr

/-- Why a step gives an instruction no meaning. -/
inductive Refusal where
  /-- Raised by an arm of `exec` that has no meaning yet; no arm of this model raises it. Safe. -/
  | notModelled (mnemonic : String)
  deriving DecidableEq, Repr

/-- The block right after reset (10_state R38). The buffers' bytes are unspecified (70_reset_and_hazards R241), so
nothing is listed; the ports are quiet (DESIGN CHOICE, assumption logs 4 and 6). -/
def State.reset : State where
  tx := []
  txValid := false
  rx := []
  rxCount := 0
  acc := []
  cfgValid := false
  cfgCells := 0
  cfgSensors := 0
  cfgEnable := 0
  rsmState := .idle
  rsmNext := 0
  rsmExpected := 0
  rsmCmd := 0
  inputs := []
  rspValid := false
  rsp := 0

end Sys2Proof.Machine
end

