-- ==== Sys2Proof/Machine/Ops.lean ====
section
/-!
DEFINITION. The operations every meaning is written with: the buffers as memory (20_memory), the checksum function
(40_checksum_codec R100), the response word (30_encoding R72), `respond` and `raise` (00_scope R9), the named updates
of the registers, reset (70_reset_and_hazards R240) and the command port (30_encoding R80).
-/

namespace Sys2Proof.Machine

/-! ### Buffers as memory -/

/-- The byte written at an index, if one has been written since reset. -/
def memLookup : Memory → Nat → Option Byte
  | [], _ => none
  | (j, v) :: rest, i => if j = i then some v else memLookup rest i

/-- `buffer[i] <- v` (00_scope R9), keeping the indices rising. -/
def memWrite : Memory → Nat → Byte → Memory
  | [], i, v => [(i, v)]
  | (j, u) :: rest, i, v =>
    if i < j then (i, v) :: (j, u) :: rest
    else if i = j then (i, v) :: rest
    else (j, u) :: memWrite rest i v

/-- `MemWrite`: the bytes of a list at consecutive indices from `base` (00_scope R9). -/
def memWriteList : Memory → Nat → List Byte → Memory
  | m, _, [] => m
  | m, base, v :: vs => memWriteList (memWrite m base v) (base + 1) vs

/-- `buffer[i]`: the value of the most recent write (20_memory R60); a byte nothing has written is a free value
(10_state R37, assumption log 1). -/
def memRead (b : Buffer) (m : Memory) (i : Nat) : Byte :=
  (memLookup m i).getD (Config.residue b i)

/-- `MemRead`: `n` bytes from `base`, lowest index first (00_scope R9). -/
def memReadList (b : Buffer) (m : Memory) (base n : Nat) : List Byte :=
  (List.range n).map fun k => memRead b m (base + k)

/-- The indices are strictly rising and none lies outside a buffer of `size` bytes. -/
def Memory.wf (size : Nat) : Memory → Bool
  | [] => true
  | [(i, _)] => decide (i < size)
  | (i, _) :: (j, v) :: rest => decide (i < j) && Memory.wf size ((j, v) :: rest)

/-- `TXBUF[i]` (10_state R21). -/
def State.txByte (s : State) (i : Nat) : Byte := memRead .tx s.tx i

/-- `RXBUF[i]` (10_state R23). -/
def State.rxByte (s : State) (i : Nat) : Byte := memRead .rx s.rx i

/-- `ACC[i]` (10_state R25). -/
def State.accByte (s : State) (i : Nat) : Byte := memRead .acc s.acc i

/-! ### The checksum function -/

/-- `sum8`: the sum of the bytes as an unbounded integer, then mod 256 (00_scope R9, 40_checksum_codec R100). -/
def sum8 (bytes : List Byte) : Byte := BitVec.ofNat 8 ((bytes.map BitVec.toNat).sum % 256)

/-! ### Responses -/

/-- The five bytes of a response word (30_encoding R72); data bytes a rule does not mention are 0x00. -/
structure Response where
  status : Byte := 0#8
  r0 : Byte := 0#8
  r1 : Byte := 0#8
  r2 : Byte := 0#8
  r3 : Byte := 0#8
  deriving DecidableEq, Repr

/-- The response word `{status, R0, R1, R2, R3}` (30_encoding R72). -/
def Response.word (r : Response) : Word := packWord r.status r.r0 r.r1 r.r2 r.r3

/-- The status code of an error kind (60_exceptions R210). -/
def ErrorKind.code : ErrorKind → Byte
  | .transportError => 0x01#8
  | .frameFormatError => 0x02#8
  | .checksumError => 0x03#8
  | .sequenceError => 0x04#8
  | .configurationError => 0x05#8
  | .usageError => 0x06#8

/-- The two-bit code of a reassembler state, as a response byte (10_state R30). -/
def RsmState.code : RsmState → Byte
  | .idle => 0#8
  | .await => 1#8
  | .complete => 2#8
  | .failed => 3#8

/-- `respond`: the operation ends with this response word on the response port (00_scope R9, 30_encoding R80). -/
def State.respond (s : State) (r : Response) : State :=
  { s with rspValid := true, rsp := r.word }

/-- `raise`: delivering an error. The response is the error's code and four zero bytes; no context is saved, no mode
changes and control goes nowhere (60_exceptions R210, R218). There is no return from it (R221). -/
def State.raise (s : State) (e : ErrorKind) : State :=
  s.respond { status := e.code }

/-! ### Updates of the registers, each the writes of one rule -/

/-- `TXBUF[0..12] <- packet; tx_valid <- 1` (41_packet_framer R120). -/
def State.loadTx (s : State) (packet : List Byte) : State :=
  { s with tx := memWriteList s.tx 0 packet, txValid := true }

/-- `rx_count <- n` (41_packet_framer R122, R123). -/
def State.setRxCount (s : State) (n : BitVec 4) : State := { s with rxCount := n }

/-- `RXBUF[i] <- v` (41_packet_framer R123). -/
def State.storeRx (s : State) (i : Nat) (v : Byte) : State := { s with rx := memWrite s.rx i v }

/-- `MemWrite(ACC, base, ...)` (42_frame_reassembler R152). -/
def State.storeAcc (s : State) (base : Nat) (bytes : List Byte) : State :=
  { s with acc := memWriteList s.acc base bytes }

/-- `rsm_state <- st`. -/
def State.setRsmState (s : State) (st : RsmState) : State := { s with rsmState := st }

/-- `rsm_next <- n`. -/
def State.setRsmNext (s : State) (n : BitVec 5) : State := { s with rsmNext := n }

/-- The four session registers together (42_frame_reassembler R151). -/
def State.setSession (s : State) (st : RsmState) (next expected : BitVec 5) (command : Byte) : State :=
  { s with rsmState := st, rsmNext := next, rsmExpected := expected, rsmCmd := command }

/-- The four configuration registers together, `cfg_valid <- 1` (43_command_dispatch_mux R183). -/
def State.setConfig (s : State) (cells : BitVec 6) (sensors : BitVec 5) (enable : BitVec 9) : State :=
  { s with cfgValid := true, cfgCells := cells, cfgSensors := sensors, cfgEnable := enable }

/-- Every register to its reset value (44_system_ops R201, 10_state R38); the ports are not registers and stay. -/
def State.resetRegisters (s : State) : State :=
  { State.reset with inputs := s.inputs, rspValid := s.rspValid, rsp := s.rsp }

/-- The `rst` input: the same reset, and no response is present (70_reset_and_hazards R240; assumption log 5). -/
def State.assertReset (s : State) : State :=
  { s.resetRegisters with rspValid := false, rsp := 0 }

/-! ### The command port -/

/-- The samples still to come. -/
def State.setInputs (s : State) (rest : List PortIn) : State := { s with inputs := rest }

/-- `cmd_ready`. Between two steps every operation is complete, so the block is ready unless `rst` is asserted
(30_encoding R80, 70_reset_and_hazards R240; assumption log 7). -/
def cmdReady (p : PortIn) : Bool := !p.rst

/-- A word is taken when `cmd_valid` and `cmd_ready` are both 1; none while `rst` is asserted
(30_encoding R80, 70_reset_and_hazards R240). -/
def portEvent (p : PortIn) : PortEvent :=
  if p.rst then .reset
  else if p.cmdValid && cmdReady p then .command p.cmd
  else .quiet

/-- The oldest sample leaves the list; with none left the ports are quiet (assumption log 4). -/
def fetch (s : State) : PortEvent × State :=
  match s.inputs with
  | [] => (.quiet, s)
  | p :: rest => (portEvent p, s.setInputs rest)

/-- The sample that presents one command word. -/
def present (w : Word) : PortIn := { rst := false, cmdValid := true, cmd := w }

/-- An unassigned opcode: `raise UsageError`, before any operand is looked at (30_encoding R76, 60_exceptions R219). -/
def rejectWord (e : DecodeError) (s : State) : State :=
  match e with
  | .unassignedOpcode _ => s.raise .usageError

end Sys2Proof.Machine
end

