-- ==== Sys2Proof/Machine/Checksum.lean ====
section
/-!
DEFINITION. Unit checksum_codec (40_checksum_codec).
-/

namespace Sys2Proof.Machine

/-- The verdict on a packet: the reduced sum of offsets 0 to 11 against the byte at offset 12; a mismatch is data, not
an error (40_checksum_codec R102, R103). -/
def verdict (b : Buffer) (m : Memory) : Response :=
  let computed := sum8 (memReadList b m 0 (Config.pktSize - 1))
  let stored := memRead b m (Config.pktSize - 1)
  { r0 := if computed = stored then 1#8 else 0#8, r1 := computed, r2 := stored }

/-- `CKS.COMPUTE` (40_checksum_codec R101). -/
def execCksCompute (startFlag moduleAddress commandId payloadLength : Byte) (s : State) :
    Host.Outcome State Fault Refusal :=
  .next (s.respond { r0 := sum8 [startFlag, moduleAddress, commandId, payloadLength] })

/-- `CKS.VERIFY` (40_checksum_codec R102). -/
def execCksVerify (select : Byte) (s : State) : Host.Outcome State Fault Refusal :=
  if 2 ≤ select.toNat then .next (s.raise .usageError)
  else if select = 0#8 then
    if s.rxCount.toNat = Config.pktSize then .next (s.respond (verdict .rx s.rx))
    else .next (s.raise .frameFormatError)
  else
    if s.txValid then .next (s.respond (verdict .tx s.tx))
    else .next (s.raise .usageError)

end Sys2Proof.Machine
end

