-- ==== Sys2Proof/Machine/Operands.lean ====
section
/-!
DEFINITION. Operand assembly (30_encoding R74): a byte of the command word is used as it stands, but for the 9-bit
enable set; group ids, and the register values that go back into response bytes.
-/

namespace Sys2Proof.Machine

/-- The group an id names; 9 to 255 name none (43_command_dispatch_mux R180). -/
def groupOfId (id : Byte) : Option TelemetryGroup :=
  match id with
  | 0#8 => some .soc
  | 1#8 => some .minmaxCellV
  | 2#8 => some .minmaxTemp
  | 3#8 => some .mosStatus
  | 4#8 => some .statusInfo1
  | 5#8 => some .cellVoltages
  | 6#8 => some .cellTemps
  | 7#8 => some .cellBalance
  | 8#8 => some .failureStatus
  | _ => none

/-- The group id, which is the group's bit position in the enable set (43_command_dispatch_mux R180). -/
def groupId : TelemetryGroup → Nat
  | .soc => 0
  | .minmaxCellV => 1
  | .minmaxTemp => 2
  | .mosStatus => 3
  | .statusInfo1 => 4
  | .cellVoltages => 5
  | .cellTemps => 6
  | .cellBalance => 7
  | .failureStatus => 8

/-- The enable set `{D[0], C[7:0]}` (30_encoding R74). -/
def enableSet (enableLow enableHigh : Byte) : BitVec 9 := enableHigh.extractLsb' 0 1 ++ enableLow

/-- `D[7:1]`, which names no group (43_command_dispatch_mux R183). -/
def undefinedEnableBits (enableHigh : Byte) : BitVec 7 := enableHigh.extractLsb' 1 7

/-- `zext_8` (00_scope R8). -/
def zext8 {n : Nat} (v : BitVec n) : Byte := v.setWidth 8

/-- The readable length of `RXBUF`: min(`rx_count`, `PKT_SIZE`) (20_memory R54). -/
def State.rxReadable (s : State) : Nat := min s.rxCount.toNat Config.pktSize

/-- The readable length of `ACC` in state `COMPLETE`: `FRAME_DATA` * `rsm_next`, never beyond the buffer
(20_memory R52, R55). -/
def State.accReadable (s : State) : Nat := min (Config.frameData * s.rsmNext.toNat) Config.accSize

/-- The session registers as response bytes, R0 to R3 (42_frame_reassembler R154). -/
def State.sessionResponse (s : State) : Response :=
  { r0 := s.rsmState.code, r1 := zext8 s.rsmNext, r2 := zext8 s.rsmExpected, r3 := s.rsmCmd }

end Sys2Proof.Machine
end

