-- ==== Sys2Proof/Machine/Framer.lean ====
section
/-!
DEFINITION. Unit packet_framer (41_packet_framer).
-/

namespace Sys2Proof.Machine

/-- The checksum of a request: over the four envelope bytes, the payload being zero (40_checksum_codec R104,
41_packet_framer R120). -/
def requestChecksum (moduleAddress commandId : Byte) : Byte :=
  sum8 [Config.startFlag, moduleAddress, commandId, BitVec.ofNat 8 Config.payloadSize]

/-- The thirteen bytes of a request packet, in wire order (30_encoding R70, 41_packet_framer R120). -/
def requestPacket (moduleAddress commandId : Byte) : List Byte :=
  [Config.startFlag, moduleAddress, commandId, BitVec.ofNat 8 Config.payloadSize]
    ++ List.replicate Config.payloadSize 0#8 ++ [requestChecksum moduleAddress commandId]

/-- `PKT.ENCODE` (41_packet_framer R120). -/
def execPktEncode (moduleAddress commandId : Byte) (s : State) : Host.Outcome State Fault Refusal :=
  .next ((s.loadTx (requestPacket moduleAddress commandId)).respond
    { r0 := requestChecksum moduleAddress commandId })

/-- `TX.READ` (41_packet_framer R121; gate 20_memory R53). -/
def execTxRead (index : Byte) (s : State) : Host.Outcome State Fault Refusal :=
  if s.txValid = true ∧ index.toNat < Config.pktSize then
    .next (s.respond { r0 := s.txByte index.toNat })
  else .next (s.raise .usageError)

/-- `RX.CLEAR` (41_packet_framer R122). -/
def execRxClear (s : State) : Host.Outcome State Fault Refusal :=
  .next ((s.setRxCount 0).respond {})

/-- The state after one more byte: stored while there is room; else dropped, and the count says "too many"
(41_packet_framer R123, 10_state R24). -/
def pushByte (byte : Byte) (s : State) : State :=
  if s.rxCount.toNat < Config.pktSize then
    (s.storeRx s.rxCount.toNat byte).setRxCount (s.rxCount + 1)
  else s.setRxCount (BitVec.ofNat 4 (Config.pktSize + 1))

/-- `RX.PUSH` (41_packet_framer R123). -/
def execRxPush (byte : Byte) (s : State) : Host.Outcome State Fault Refusal :=
  .next ((pushByte byte s).respond { r0 := zext8 (pushByte byte s).rxCount })

/-- `PKT.DECODE`: only the byte count is checked (41_packet_framer R124, R126). -/
def execPktDecode (s : State) : Host.Outcome State Fault Refusal :=
  if s.rxCount.toNat = Config.pktSize then
    .next (s.respond { r0 := s.rxByte 0, r1 := s.rxByte 1, r2 := s.rxByte 2, r3 := s.rxByte 3 })
  else .next (s.raise .frameFormatError)

/-- `RX.READ` (41_packet_framer R125; gate 20_memory R54). -/
def execRxRead (index : Byte) (s : State) : Host.Outcome State Fault Refusal :=
  if index.toNat < s.rxReadable then .next (s.respond { r0 := s.rxByte index.toNat })
  else .next (s.raise .usageError)

end Sys2Proof.Machine
end

