-- ==== Sys2Proof/Machine/Flags.lean ====
section
/-!
DEFINITION. The block has no condition codes (10_state R35). Its flags are the bits packed into two response bytes:
the flag byte of `MUX.LOOKUP` (43_command_dispatch_mux R185) and byte R3 of `CFG.READ` (R184); and the properties of a
telemetry group they show.
-/

namespace Sys2Proof.Machine

/-- Groups 5 and 6 are the multi-frame groups, whatever the configured counts (43_command_dispatch_mux R182). -/
def isMultiFrame : TelemetryGroup → Bool
  | .cellVoltages => true
  | .cellTemps => true
  | _ => false

/-- Bit `g` of the enable set (10_state R29). -/
def State.enabled (s : State) (g : TelemetryGroup) : Bool := s.cfgEnable.getLsbD (groupId g)

/-- The item count behind a group's frames; 0 for single-frame groups (43_command_dispatch_mux R185). -/
def State.items (s : State) : TelemetryGroup → Nat
  | .cellVoltages => s.cfgCells.toNat
  | .cellTemps => s.cfgSensors.toNat
  | _ => 0

/-- The expected frame count (43_command_dispatch_mux R186). -/
def State.frameCount (s : State) : TelemetryGroup → Nat
  | .cellVoltages => (s.cfgCells.toNat + Config.ipfCellV - 1) / Config.ipfCellV
  | .cellTemps => (s.cfgSensors.toNat + Config.ipfTemp - 1) / Config.ipfTemp
  | _ => 1

/-- `{0b000000, multi, enabled}` (43_command_dispatch_mux R185). -/
def lookupFlags (multi enabled : Bool) : Byte := 0#6 ++ BitVec.ofBool multi ++ BitVec.ofBool enabled

/-- `{cfg_valid, 0b000000, cfg_enable[8]}` (43_command_dispatch_mux R184). -/
def configFlags (valid enable8 : Bool) : Byte := BitVec.ofBool valid ++ 0#6 ++ BitVec.ofBool enable8

end Sys2Proof.Machine
end

