-- ==== Sys2Proof/Machine/Mux.lean ====
section
/-!
DEFINITION. Unit command_dispatch_mux (43_command_dispatch_mux).
-/

namespace Sys2Proof.Machine

/-- What `MUX.LOOKUP` answers for a group (43_command_dispatch_mux R185). -/
def State.lookupResponse (s : State) (g : TelemetryGroup) : Response :=
  { r0 := Config.cmdCode g
    r1 := lookupFlags (isMultiFrame g) (s.enabled g)
    r2 := BitVec.ofNat 8 (s.frameCount g)
    r3 := BitVec.ofNat 8 (s.items g) }

/-- `CFG.SET` (43_command_dispatch_mux R183). -/
def execCfgSet (cells sensors enableLow enableHigh : Byte) (s : State) :
    Host.Outcome State Fault Refusal :=
  if s.cfgValid then .next (s.raise .usageError)
  else if Config.maxStrings < cells.toNat ∨ Config.maxSensors < sensors.toNat
      ∨ undefinedEnableBits enableHigh ≠ 0#7 then .next (s.raise .configurationError)
  else
    .next ((s.setConfig (cells.extractLsb' 0 6) (sensors.extractLsb' 0 5)
      (enableSet enableLow enableHigh)).respond {})

/-- `CFG.READ` (43_command_dispatch_mux R184). -/
def execCfgRead (s : State) : Host.Outcome State Fault Refusal :=
  .next (s.respond
    { r0 := zext8 s.cfgCells
      r1 := zext8 s.cfgSensors
      r2 := s.cfgEnable.extractLsb' 0 8
      r3 := configFlags s.cfgValid (s.cfgEnable.getLsbD 8) })

/-- `MUX.LOOKUP` (43_command_dispatch_mux R185). -/
def execMuxLookup (group : Byte) (s : State) : Host.Outcome State Fault Refusal :=
  if s.cfgValid then
    match groupOfId group with
    | some g => .next (s.respond (s.lookupResponse g))
    | none => .next (s.raise .usageError)
  else .next (s.raise .usageError)

end Sys2Proof.Machine
end

