-- ==== Sys2Proof/Machine/Reassembler.lean ====
section
/-!
DEFINITION. Unit frame_reassembler (42_frame_reassembler).
-/

namespace Sys2Proof.Machine

/-- The sequence index of the frame in `RXBUF`: packet byte 4 (30_encoding R82). -/
def State.frameIndex (s : State) : Byte := s.rxByte 4

/-- The index test of the acceptance condition (42_frame_reassembler R153). -/
def State.indexExpected (s : State) : Bool :=
  s.frameIndex != Config.seqSentinel && s.frameIndex == zext8 s.rsmNext

/-- Where the next frame's data goes in `ACC` (42_frame_reassembler R156). -/
def State.frameBase (s : State) : Nat := s.rsmNext.toNat * Config.frameData

/-- The seven data bytes of the frame in `RXBUF`: offsets 5 to 11 (30_encoding R82). -/
def State.frameBytes (s : State) : List Byte := memReadList .rx s.rx 5 Config.frameData

/-- The state after accepting the frame in `RXBUF`, before the response (42_frame_reassembler R152, R157). -/
def acceptFrame (s : State) : State :=
  let t := (s.storeAcc s.frameBase s.frameBytes).setRsmNext (s.rsmNext + 1)
  if t.rsmNext = t.rsmExpected then t.setRsmState .complete else t

/-- A rejected frame: the machine fails and the error is reported (42_frame_reassembler R152, R158). -/
def failSequence (s : State) : State := (s.setRsmState .failed).raise .sequenceError

/-- `RSM.START` (42_frame_reassembler R151). -/
def execRsmStart (count command : Byte) (s : State) : Host.Outcome State Fault Refusal :=
  if Config.maxFrames < count.toNat then .next (s.raise .configurationError)
  else
    let t := s.setSession (if count = 0#8 then .complete else .await) (BitVec.ofNat 5 Config.seqFirst)
      (count.setWidth 5) command
    .next (t.respond t.sessionResponse)

/-- `RSM.FEED` (42_frame_reassembler R152): the tests in the order of 60_exceptions R219. -/
def execRsmFeed (s : State) : Host.Outcome State Fault Refusal :=
  if s.rxCount.toNat ≠ Config.pktSize then .next (s.raise .frameFormatError)
  else
    match s.rsmState with
    | .idle => .next (s.raise .usageError)
    | .failed => .next (s.raise .sequenceError)
    | .complete => .next (failSequence s)
    | .await =>
      if !s.indexExpected then .next (failSequence s)
      else if Config.accSize < s.frameBase + Config.frameData then .fault .accOverrun
      else .next ((acceptFrame s).respond (acceptFrame s).sessionResponse)

/-- `RSM.STATUS` (42_frame_reassembler R154). -/
def execRsmStatus (s : State) : Host.Outcome State Fault Refusal :=
  .next (s.respond s.sessionResponse)

/-- `ACC.READ` (42_frame_reassembler R155; gate 20_memory R55). -/
def execAccRead (offset : Byte) (s : State) : Host.Outcome State Fault Refusal :=
  if s.rsmState = .complete ∧ offset.toNat < s.accReadable then
    .next (s.respond { r0 := s.accByte offset.toNat })
  else .next (s.raise .usageError)

end Sys2Proof.Machine
end

