-- ==== Sys2Proof/Machine/System.lean ====
section
/-!
DEFINITION. The system operations (44_system_ops). No other system operation exists (R202).
-/

namespace Sys2Proof.Machine

/-- `SYS.NOP` (44_system_ops R200). -/
def execSysNop (s : State) : Host.Outcome State Fault Refusal :=
  .next (s.respond {})

/-- `SYS.RESET` (44_system_ops R201). -/
def execSysReset (s : State) : Host.Outcome State Fault Refusal :=
  .next (s.resetRegisters.respond {})

end Sys2Proof.Machine
end

