-- ==== Sys2Proof/Machine/Dispatch.lean ====
section
/-!
DEFINITION. One arm per operation of 30_encoding R73.
-/

namespace Sys2Proof.Machine

def exec (i : Instr) (s : State) : Host.Outcome State Fault Refusal :=
  match i with
  -- system (44_system_ops)
  | .sysNop => Sys2Proof.Machine.execSysNop s
  | .sysReset => Sys2Proof.Machine.execSysReset s
  -- checksum_codec (40_checksum_codec)
  | .cksCompute a b c d => Sys2Proof.Machine.execCksCompute a b c d s
  | .cksVerify a => Sys2Proof.Machine.execCksVerify a s
  -- packet_framer (41_packet_framer)
  | .pktEncode a b => Sys2Proof.Machine.execPktEncode a b s
  | .txRead a => Sys2Proof.Machine.execTxRead a s
  | .rxClear => Sys2Proof.Machine.execRxClear s
  | .rxPush a => Sys2Proof.Machine.execRxPush a s
  | .pktDecode => Sys2Proof.Machine.execPktDecode s
  | .rxRead a => Sys2Proof.Machine.execRxRead a s
  -- frame_reassembler (42_frame_reassembler)
  | .rsmStart a b => Sys2Proof.Machine.execRsmStart a b s
  | .rsmFeed => Sys2Proof.Machine.execRsmFeed s
  | .rsmStatus => Sys2Proof.Machine.execRsmStatus s
  | .accRead a => Sys2Proof.Machine.execAccRead a s
  -- command_dispatch_mux (43_command_dispatch_mux)
  | .cfgSet a b c d => Sys2Proof.Machine.execCfgSet a b c d s
  | .cfgRead => Sys2Proof.Machine.execCfgRead s
  | .muxLookup a => Sys2Proof.Machine.execMuxLookup a s

end Sys2Proof.Machine
end

