-- ==== Sys2Proof/Machine/Step.lean ====
section
/-!
DEFINITION. One step: one sample of the input ports (30_encoding R80), with the whole of the operation it asks for
(00_scope R10).
-/

namespace Sys2Proof.Machine

/-- One step of the block: nothing, a reset, or one command word taken and answered. -/
def step (s : State) : Host.Outcome State Fault Refusal :=
  match fetch s with
  | (.quiet, t) => .next t
  | (.reset, t) => .next t.assertReset
  | (.command w, t) =>
    match decode w with
    | .ok i => exec i t
    | .error e => .next (rejectWord e t)

/-- The state whose next sample presents the command word with the bits of `w` (30_encoding R71; assumption logs 10
and 12). The block stores no program (10_state R34). -/
def State.withFetchWord (s : State) (nbits w : Nat) : State :=
  s.setInputs (present (BitVec.ofNat 40 (w % 2 ^ nbits)) :: s.inputs)

end Sys2Proof.Machine
end

