-- ==== Sys2Proof/Machine/Sequences.lean ====
section
/-!
DEFINITION. Lists of operations the spec names: the pseudo-operations of 30_encoding R79 and the frame-by-frame
exchange of 70_reset_and_hazards R250. The block stores no program (10_state R34): such a list lives in the host.
-/

namespace Sys2Proof.Machine

/-- `RX.LOAD b0, ..., b(n-1)` (30_encoding R79). -/
def rxLoad (bytes : List Byte) : List Instr := .rxClear :: bytes.map .rxPush

/-- `TX.DUMP` (30_encoding R79). -/
def txDump : List Instr := (List.range Config.pktSize).map fun i => .txRead (BitVec.ofNat 8 i)

/-- `ACC.DUMP n` (30_encoding R79). -/
def accDump (n : Nat) : List Instr := (List.range n).map fun i => .accRead (BitVec.ofNat 8 i)

/-- One receive leg that ends in a feed; the checks between (70_reset_and_hazards R248) change no state. -/
def feedLeg (packet : List Byte) : List Instr := rxLoad packet ++ [.rsmFeed]

/-- An exchange: `RSM.START` with the number of frames, then one leg a frame (70_reset_and_hazards R250). -/
def exchange (command : Byte) (total : Nat) (packets : List (List Byte)) : List Instr :=
  .rsmStart (BitVec.ofNat 8 total) command :: packets.flatMap feedLeg

/-- The operations one after the other, each on the state the one before left (00_scope R10). -/
def execAll : List Instr → State → Host.Outcome State Fault Refusal
  | [], s => .next s
  | i :: rest, s =>
    match exec i s with
    | .next t => execAll rest t
    | .fault r => .fault r
    | .refused r => .refused r

end Sys2Proof.Machine
end

