-- ==== Sys2Proof/WellFormed.lean ====
section
/-!
DEFINITION. The operand ranges of 30_encoding R73. Every command word is legal to present and every operation runs on
every operand (R76): an operation outside its range answers the error its rule names. So decoding, encoding and
stepping do not depend on this check; claims do (which operands can succeed).
-/

namespace Sys2Proof

/-- The operands lie in the ranges the operation map gives them (30_encoding R73). -/
def Instr.wellFormed : Instr → Bool
  | .sysNop => true
  | .sysReset => true
  | .cksCompute _ _ _ _ => true
  | .cksVerify select => decide (select.toNat < 2)
  | .pktEncode _ _ => true
  | .txRead index => decide (index.toNat < Config.pktSize)
  | .rxClear => true
  | .rxPush _ => true
  | .pktDecode => true
  | .rxRead index => decide (index.toNat < Config.pktSize)
  | .rsmStart count _ => decide (count.toNat ≤ Config.maxFrames)
  | .rsmFeed => true
  | .rsmStatus => true
  | .accRead offset => decide (offset.toNat < Config.accSize)
  | .cfgSet cells sensors _ enableHigh =>
      decide (cells.toNat ≤ Config.maxStrings) && decide (sensors.toNat ≤ Config.maxSensors)
        && decide (enableHigh.toNat < 2)
  | .cfgRead => true
  | .muxLookup group => decide (group.toNat < Config.nGroups)

end Sys2Proof
end

