-- ==== Sys2Proof/Safety.lean ====
section
/-!
DEFINITION. The terms claims use: the invariants of 10_state R39, what a state lets a host observe (10_state R37), and
the parts of a response word (30_encoding R72).
-/

namespace Sys2Proof.Machine

/-- The state with a response word on the response port and nothing else changed. -/
def State.answered (s : State) (w : Word) : State := { s with rspValid := true, rsp := w }

/-- The status byte of the response on the port (30_encoding R72). -/
def State.status (s : State) : Byte := s.rsp.extractLsb' 32 8

/-- Data byte R0 of the response on the port (30_encoding R72). -/
def State.r0 (s : State) : Byte := s.rsp.extractLsb' 24 8

/-- The thirteen items of 10_state R20 are those of another state. -/
def State.sameRegisters (s t : State) : Prop :=
  s.tx = t.tx ∧ s.txValid = t.txValid ∧ s.rx = t.rx ∧ s.rxCount = t.rxCount ∧ s.acc = t.acc
    ∧ s.cfgValid = t.cfgValid ∧ s.cfgCells = t.cfgCells ∧ s.cfgSensors = t.cfgSensors
    ∧ s.cfgEnable = t.cfgEnable ∧ s.rsmState = t.rsmState ∧ s.rsmNext = t.rsmNext
    ∧ s.rsmExpected = t.rsmExpected ∧ s.rsmCmd = t.rsmCmd

/-- The exchange in progress or completed: the states in which the first `7 * rsm_next` bytes of `ACC` are those of
accepted frames (10_state R39, item 7). -/
def State.holdsFrames (s : State) : Prop := s.rsmState = .await ∨ s.rsmState = .complete

/-- Items 1 to 6 of 10_state R39; with them, that each byte a gate admits has been written since reset
(70_reset_and_hazards R241) and that the buffers' lists are in canonical form. -/
structure Inv (s : State) : Prop where
  rxCount_le : s.rxCount.toNat ≤ 14
  next_le : s.rsmNext.toNat ≤ s.rsmExpected.toNat
  expected_le : s.rsmExpected.toNat ≤ 16
  complete_next : s.rsmState = .complete → s.rsmNext = s.rsmExpected
  await_next : s.rsmState = .await → s.rsmNext.toNat < s.rsmExpected.toNat
  idle_session : s.rsmState = .idle → s.rsmNext = 0 ∧ s.rsmExpected = 0 ∧ s.rsmCmd = 0
  unconfigured : s.cfgValid = false → s.cfgCells = 0 ∧ s.cfgSensors = 0 ∧ s.cfgEnable = 0
  cells_le : s.cfgCells.toNat ≤ 48
  sensors_le : s.cfgSensors.toNat ≤ 16
  request : s.txValid = true →
    s.txByte 0 = 0xA5#8 ∧ s.txByte 3 = 0x08#8 ∧ (∀ i, 4 ≤ i → i ≤ 11 → s.txByte i = 0x00#8)
      ∧ (s.txByte 12).toNat = ((List.range 12).map fun i => (s.txByte i).toNat).sum % 256
  tx_written : s.txValid = true → ∀ i, i < 13 → (memLookup s.tx i).isSome = true
  rx_written : ∀ i, i < 13 → i < s.rxCount.toNat → (memLookup s.rx i).isSome = true
  acc_written : s.holdsFrames → ∀ i, i < 7 * s.rsmNext.toNat → (memLookup s.acc i).isSome = true
  tx_wf : Memory.wf 13 s.tx = true
  rx_wf : Memory.wf 13 s.rx = true
  acc_wf : Memory.wf 112 s.acc = true

/-- Two states a host cannot tell apart: equal registers and ports, and equal bytes wherever a gate of 20_memory R53
to R55 could ever admit a read before the byte is written again (10_state R37). -/
structure SameObservable (s t : State) : Prop where
  txValid : s.txValid = t.txValid
  rxCount : s.rxCount = t.rxCount
  cfgValid : s.cfgValid = t.cfgValid
  cfgCells : s.cfgCells = t.cfgCells
  cfgSensors : s.cfgSensors = t.cfgSensors
  cfgEnable : s.cfgEnable = t.cfgEnable
  rsmState : s.rsmState = t.rsmState
  rsmNext : s.rsmNext = t.rsmNext
  rsmExpected : s.rsmExpected = t.rsmExpected
  rsmCmd : s.rsmCmd = t.rsmCmd
  inputs : s.inputs = t.inputs
  rspValid : s.rspValid = t.rspValid
  rsp : s.rsp = t.rsp
  tx : s.txValid = true → ∀ i, i < 13 → s.txByte i = t.txByte i
  rx : ∀ i, i < 13 → i < s.rxCount.toNat → s.rxByte i = t.rxByte i
  acc : s.holdsFrames → ∀ i, i < 7 * s.rsmNext.toNat → s.accByte i = t.accByte i

end Sys2Proof.Machine
end

