-- ==== Sys2Proof/Certificates/Slice0/Obligations.lean ====
section
/-!
DEFINITION. The statements about the block, each the reading of one or more numbered rules of spec/. Response words
are written out as `packWord status R0 R1 R2 R3` (30_encoding R72), and an equation `exec i s = .next (s.answered w)`
says that nothing but the response port changed.
-/

open Sys2Proof Sys2Proof.Machine

/-! ### Reset and the command port -/

/-- 10_state R38: every scalar is zero or `IDLE` after reset, and no byte of a buffer can be read. -/
def Obligations.ResetClearsScalarsAndHidesBuffers : Prop :=
  State.reset.txValid = false ∧ State.reset.rxCount = 0 ∧ State.reset.cfgValid = false
    ∧ State.reset.cfgCells = 0 ∧ State.reset.cfgSensors = 0 ∧ State.reset.cfgEnable = 0
    ∧ State.reset.rsmState = .idle ∧ State.reset.rsmNext = 0 ∧ State.reset.rsmExpected = 0
    ∧ State.reset.rsmCmd = 0x00#8
    ∧ ∀ a : Byte,
        exec (.txRead a) State.reset = .next (State.reset.answered 0x0600000000#40)
          ∧ exec (.rxRead a) State.reset = .next (State.reset.answered 0x0600000000#40)
          ∧ exec (.accRead a) State.reset = .next (State.reset.answered 0x0600000000#40)

/-- 70_reset_and_hazards R240: a sample with `rst` asserted resets every register and takes no word, whatever `cmd`
and `cmd_valid` are. That the response port is then quiet is the model's reading (assumption log 5). -/
def Obligations.RstSampleResetsAndTakesNoWord : Prop :=
  ∀ (s : State) (p : PortIn) (rest : List PortIn), s.inputs = p :: rest → p.rst = true →
    ∃ t, step s = .next t ∧ t.sameRegisters State.reset ∧ t.inputs = rest ∧ t.rspValid = false

/-- A sample that presents a command word the decoder knows makes the step the execution of that instruction on the
state with the sample gone (30_encoding R80, 00_scope R10; assumption log 4). -/
def Obligations.StepRunsTheDecodedCommand : Prop :=
  ∀ (s : State) (p : PortIn) (rest : List PortIn) (i : Instr), s.inputs = p :: rest →
    p.rst = false → p.cmdValid = true → decode p.cmd = .ok i →
    step s = exec i { s with inputs := rest }

/-- Nothing happens in the block except in response to a command word or `rst` (60_exceptions R220). That an empty list
of samples means quiet ports, and that the last response stays on the port, is the model's choice (assumption logs 4
and 6). -/
def Obligations.QuietPortChangesNothing : Prop :=
  (∀ s : State, s.inputs = [] → step s = .next s)
    ∧ ∀ (s : State) (p : PortIn) (rest : List PortIn), s.inputs = p :: rest →
        p.rst = false → p.cmdValid = false → step s = .next { s with inputs := rest }

/-- 30_encoding R76: a command word whose `op` is none of the seventeen is answered `0x0600000000` and changes no
state. -/
def Obligations.UnassignedOpcodeAnswersUsageError : Prop :=
  ∀ (s : State) (p : PortIn) (rest : List PortIn), s.inputs = p :: rest →
    p.rst = false → p.cmdValid = true →
    p.cmd.extractLsb' 32 8 ∉ [0x00#8, 0x01#8, 0x10#8, 0x11#8, 0x20#8, 0x21#8, 0x22#8, 0x23#8, 0x24#8,
      0x25#8, 0x30#8, 0x31#8, 0x32#8, 0x33#8, 0x40#8, 0x41#8, 0x42#8] →
    step s = .next (State.answered { s with inputs := rest } 0x0600000000#40)

/-- Every command word taken gets one response in the same step: `rsp_valid` is 1, the status is one of the five the
block can report, and the data bytes of an error are 0x00 (30_encoding R72 and R80, 60_exceptions R210). -/
def Obligations.EveryCommandGetsOneResponse : Prop :=
  ∀ (s : State) (p : PortIn) (rest : List PortIn), Inv s → s.inputs = p :: rest →
    p.rst = false → p.cmdValid = true →
    ∃ t, step s = .next t ∧ t.inputs = rest ∧ t.rspValid = true
      ∧ t.status ∈ [0x00#8, 0x02#8, 0x04#8, 0x05#8, 0x06#8]
      ∧ (t.status ≠ 0x00#8 → t.rsp = packWord t.status 0x00#8 0x00#8 0x00#8 0x00#8)

/-! ### Encodings -/

/-- 30_encoding R71 and R72: the five bytes of a word stand in bits 39:32, 31:24, 23:16, 15:8 and 7:0, and a word is its
five bytes. -/
def Obligations.FiveBytesMakeAWord : Prop :=
  (∀ op a b c d : Byte,
      (packWord op a b c d).extractLsb' 32 8 = op ∧ (packWord op a b c d).extractLsb' 24 8 = a
        ∧ (packWord op a b c d).extractLsb' 16 8 = b ∧ (packWord op a b c d).extractLsb' 8 8 = c
        ∧ (packWord op a b c d).extractLsb' 0 8 = d)
    ∧ ∀ w : Word, w = packWord (w.extractLsb' 32 8) (w.extractLsb' 24 8) (w.extractLsb' 16 8)
        (w.extractLsb' 8 8) (w.extractLsb' 0 8)

/-- 30_encoding R73 with R71 and R75: a word selects a row when `w AND mask = match`; the operands are its bytes and
the unused fields do not matter. -/
def Obligations.MatchAndMaskSelectTheOperation : Prop :=
  ∀ w : Word,
    let a := w.extractLsb' 24 8
    let b := w.extractLsb' 16 8
    let c := w.extractLsb' 8 8
    let d := w.extractLsb' 0 8
    (w &&& 0xFF00000000#40 = 0x0000000000#40 → decode w = .ok .sysNop)
      ∧ (w &&& 0xFF00000000#40 = 0x0100000000#40 → decode w = .ok .sysReset)
      ∧ (w &&& 0xFF00000000#40 = 0x1000000000#40 → decode w = .ok (.cksCompute a b c d))
      ∧ (w &&& 0xFF00000000#40 = 0x1100000000#40 → decode w = .ok (.cksVerify a))
      ∧ (w &&& 0xFF00000000#40 = 0x2000000000#40 → decode w = .ok (.pktEncode a b))
      ∧ (w &&& 0xFF00000000#40 = 0x2100000000#40 → decode w = .ok (.txRead a))
      ∧ (w &&& 0xFF00000000#40 = 0x2200000000#40 → decode w = .ok .rxClear)
      ∧ (w &&& 0xFF00000000#40 = 0x2300000000#40 → decode w = .ok (.rxPush a))
      ∧ (w &&& 0xFF00000000#40 = 0x2400000000#40 → decode w = .ok .pktDecode)
      ∧ (w &&& 0xFF00000000#40 = 0x2500000000#40 → decode w = .ok (.rxRead a))
      ∧ (w &&& 0xFF00000000#40 = 0x3000000000#40 → decode w = .ok (.rsmStart a b))
      ∧ (w &&& 0xFF00000000#40 = 0x3100000000#40 → decode w = .ok .rsmFeed)
      ∧ (w &&& 0xFF00000000#40 = 0x3200000000#40 → decode w = .ok .rsmStatus)
      ∧ (w &&& 0xFF00000000#40 = 0x3300000000#40 → decode w = .ok (.accRead a))
      ∧ (w &&& 0xFF00000000#40 = 0x4000000000#40 → decode w = .ok (.cfgSet a b c d))
      ∧ (w &&& 0xFF00000000#40 = 0x4100000000#40 → decode w = .ok .cfgRead)
      ∧ (w &&& 0xFF00000000#40 = 0x4200000000#40 → decode w = .ok (.muxLookup a))

/-- Decoding an encoded instruction gives it back, for every instruction and every operand (30_encoding R71, R73). -/
def Obligations.DecodeOfEncodeIsTheInstruction : Prop :=
  ∀ i : Instr, decode (encode i) = .ok i

/-- Encoding a decoded word gives the word with its unused operand fields cleared (30_encoding R75, R78). -/
def Obligations.EncodeOfDecodeClearsUnusedFields : Prop :=
  ∀ (w : Word) (i : Instr), decode w = .ok i → encode i = w &&& usedBits i

/-- The words 30_encoding R78 assembles, and one word of each other family, decode to what they stand for. -/
def Obligations.WrittenOutWordsDecode : Prop :=
  decode 0x10A5409008#40 = .ok (.cksCompute 0xA5#8 0x40#8 0x90#8 0x08#8)
    ∧ decode 0x2200000000#40 = .ok .rxClear
    ∧ decode 0x400702FF01#40 = .ok (.cfgSet 7#8 2#8 0xFF#8 1#8)
    ∧ decode 0x3003950000#40 = .ok (.rsmStart 3#8 0x95#8)
    ∧ decode 0x00FFFFFFFF#40 = .ok .sysNop

/-! ### System operations -/

/-- 44_system_ops R200: `SYS.NOP` answers `0x0000000000` and changes nothing. -/
def Obligations.NopOnlyAnswers : Prop :=
  ∀ s : State, exec .sysNop s = .next (s.answered 0x0000000000#40)

/-- 44_system_ops R201: `SYS.RESET` gives every register its reset value, answers `0x0000000000`, and leaves what an
`rst` sample leaves. -/
def Obligations.SysResetResetsEveryRegister : Prop :=
  ∀ s : State, ∃ t, exec .sysReset s = .next t ∧ t.sameRegisters State.reset
    ∧ t.inputs = s.inputs ∧ t.rspValid = true ∧ t.rsp = 0x0000000000#40
    ∧ ∀ p rest, p.rst = true →
        ∃ u, step { s with inputs := p :: rest } = .next u ∧ u.sameRegisters t

/-! ### Unit checksum_codec -/

/-- 40_checksum_codec R100 and R105: the checksum is the sum modulo 256; it does not depend on the order, a zero byte
adds nothing, and an 8-bit accumulator that drops carries computes it. -/
def Obligations.SumLawsOfTheChecksum : Prop :=
  (∀ bytes : List Byte, (sum8 bytes).toNat = (bytes.map BitVec.toNat).sum % 256)
    ∧ sum8 [] = 0x00#8
    ∧ (∀ xs ys : List Byte, xs.Perm ys → sum8 xs = sum8 ys)
    ∧ (∀ xs : List Byte, sum8 (xs ++ [0x00#8]) = sum8 xs)
    ∧ (∀ xs : List Byte, xs.foldl (fun acc x => acc + x) 0#8 = sum8 xs)
    ∧ (∀ xs : List Byte, xs.length = 12 → (xs.map BitVec.toNat).sum ≤ 3060)
    ∧ (∀ xs : List Byte, xs.length = 4 → (xs.map BitVec.toNat).sum ≤ 1020)

/-- 40_checksum_codec R101: `CKS.COMPUTE` answers the sum of its four operands modulo 256 and changes nothing. -/
def Obligations.ComputeAnswersTheFourByteSum : Prop :=
  ∀ (a b c d : Byte) (s : State),
    exec (.cksCompute a b c d) s = .next (s.answered
      (packWord 0x00#8 (BitVec.ofNat 8 ((a.toNat + b.toNat + c.toNat + d.toNat) % 256))
        0x00#8 0x00#8 0x00#8))

/-- 40_checksum_codec R102 and R103: which buffer `CKS.VERIFY` reads, its errors in order, and the verdict: the reduced
sum of offsets 0 to 11 against offset 12. -/
def Obligations.VerifyAnswersTheVerdict : Prop :=
  ∀ (a : Byte) (s : State),
    (2 ≤ a.toNat → exec (.cksVerify a) s = .next (s.answered 0x0600000000#40))
      ∧ (a.toNat = 0 → s.rxCount.toNat ≠ 13 →
          exec (.cksVerify a) s = .next (s.answered 0x0200000000#40))
      ∧ (a.toNat = 1 → s.txValid = false →
          exec (.cksVerify a) s = .next (s.answered 0x0600000000#40))
      ∧ (a.toNat = 0 → s.rxCount.toNat = 13 →
          let sum := ((List.range 12).map fun k => (s.rxByte k).toNat).sum
          exec (.cksVerify a) s = .next (s.answered
            (packWord 0x00#8 (if sum % 256 = (s.rxByte 12).toNat then 0x01#8 else 0x00#8)
              (BitVec.ofNat 8 sum) (s.rxByte 12) 0x00#8)))
      ∧ (a.toNat = 1 → s.txValid = true →
          let sum := ((List.range 12).map fun k => (s.txByte k).toNat).sum
          exec (.cksVerify a) s = .next (s.answered
            (packWord 0x00#8 (if sum % 256 = (s.txByte 12).toNat then 0x01#8 else 0x00#8)
              (BitVec.ofNat 8 sum) (s.txByte 12) 0x00#8)))

/-- 40_checksum_codec R106 (a): after `PKT.ENCODE A, B`, for any bytes, `CKS.VERIFY 1` answers R0 = 1 and the two
bytes it compared, both equal to the checksum `PKT.ENCODE` answered. -/
def Obligations.EncodedRequestVerifies : Prop :=
  ∀ (a b : Byte) (s : State), ∃ t, exec (.pktEncode a b) s = .next t
    ∧ exec (.cksVerify 1#8) t = .next (t.answered (packWord 0x00#8 0x01#8 t.r0 t.r0 0x00#8))

/-- 40_checksum_codec R106 (b): if the received packet verifies and exactly one of its thirteen bytes is replaced by
a different value, the changed packet does not verify. -/
def Obligations.SingleByteChangeIsDetected : Prop :=
  ∀ (s t : State) (i : Nat) (v : Byte), s.rxCount.toNat = 13 → i < 13 → v ≠ s.rxByte i →
    exec (.cksVerify 0#8) s = .next t → t.r0 = 0x01#8 →
    ∃ u, exec (.cksVerify 0#8) { s with rx := memWrite s.rx i v } = .next u
      ∧ u.status = 0x00#8 ∧ u.r0 = 0x00#8

/-- 40_checksum_codec R106 (c): swapping two bytes among offsets 0 to 11 does not change the answer. -/
def Obligations.SwappedBytesAreNotDetected : Prop :=
  ∀ (s t : State) (i j : Nat), i < 12 → j < 12 →
    exec (.cksVerify 0#8) s = .next t →
    ∃ u, exec (.cksVerify 0#8)
        { s with rx := memWrite (memWrite s.rx i (s.rxByte j)) j (s.rxByte i) } = .next u
      ∧ u.rsp = t.rsp

/-! ### Unit packet_framer -/

/-- 41_packet_framer R120: the thirteen bytes `PKT.ENCODE` builds, its answer, and that nothing else changes. -/
def Obligations.EncodeBuildsTheRequest : Prop :=
  ∀ (a b : Byte) (s : State), ∃ t, exec (.pktEncode a b) s = .next t
    ∧ t.txByte 0 = 0xA5#8 ∧ t.txByte 1 = a ∧ t.txByte 2 = b ∧ t.txByte 3 = 0x08#8
    ∧ (∀ i, 4 ≤ i → i ≤ 11 → t.txByte i = 0x00#8)
    ∧ (t.txByte 12).toNat = (0xA5 + a.toNat + b.toNat + 8) % 256
    ∧ (∀ i, 13 ≤ i → t.txByte i = s.txByte i)
    ∧ t = { s with
        tx := t.tx
        txValid := true
        rspValid := true
        rsp := packWord 0x00#8 (t.txByte 12) 0x00#8 0x00#8 0x00#8 }

/-- 41_packet_framer R121: `TX.READ` answers the byte exactly when a request has been built and the index is below
13, and changes nothing. -/
def Obligations.TxReadAnswersTheByte : Prop :=
  ∀ (a : Byte) (s : State),
    exec (.txRead a) s = .next (s.answered
      (if s.txValid = true ∧ a.toNat < 13 then packWord 0x00#8 (s.txByte a.toNat) 0x00#8 0x00#8 0x00#8
        else 0x0600000000#40))

/-- 41_packet_framer R122: `RX.CLEAR` zeroes `rx_count`, answers `0x0000000000`, and keeps the bytes of `RXBUF`. -/
def Obligations.ClearOnlyZeroesTheCount : Prop :=
  ∀ s : State, exec .rxClear s = .next (State.answered { s with rxCount := 0 } 0x0000000000#40)

/-- 41_packet_framer R123: `RX.PUSH` stores the byte at index `rx_count` while there is room, else drops it and counts
14; the answer is the new count. -/
def Obligations.PushStoresOrSaturates : Prop :=
  ∀ (a : Byte) (s : State),
    (s.rxCount.toNat < 13 →
        ∃ t, exec (.rxPush a) s = .next t ∧ t.rxByte s.rxCount.toNat = a
          ∧ (∀ i, i ≠ s.rxCount.toNat → t.rxByte i = s.rxByte i)
          ∧ t.rxCount.toNat = s.rxCount.toNat + 1
          ∧ t = { s with
              rx := t.rx
              rxCount := t.rxCount
              rspValid := true
              rsp := packWord 0x00#8 (BitVec.ofNat 8 (s.rxCount.toNat + 1)) 0x00#8 0x00#8 0x00#8 })
      ∧ (13 ≤ s.rxCount.toNat →
          exec (.rxPush a) s = .next (State.answered { s with rxCount := 14 } 0x000E000000#40))

/-- 41_packet_framer R124 and R126: `PKT.DECODE` answers the envelope of any thirteen bytes and the size error for any
other count; it changes nothing. -/
def Obligations.DecodeAnswersTheEnvelope : Prop :=
  ∀ s : State,
    (s.rxCount.toNat = 13 → exec .pktDecode s = .next (s.answered
        (packWord 0x00#8 (s.rxByte 0) (s.rxByte 1) (s.rxByte 2) (s.rxByte 3))))
      ∧ (s.rxCount.toNat ≠ 13 → exec .pktDecode s = .next (s.answered 0x0200000000#40))

/-- 41_packet_framer R125: `RX.READ` answers the byte exactly when its index is below `rx_count` and below 13. -/
def Obligations.RxReadAnswersTheByte : Prop :=
  ∀ (a : Byte) (s : State),
    exec (.rxRead a) s = .next (s.answered
      (if a.toNat < min s.rxCount.toNat 13 then packWord 0x00#8 (s.rxByte a.toNat) 0x00#8 0x00#8 0x00#8
        else 0x0600000000#40))

/-- `RX.LOAD` of n bytes (30_encoding R79) from any state leaves `rx_count` = n, or 14 when n is above 13, and the first
thirteen of them in arrival order (10_state R23, R24). -/
def Obligations.LoadFillsTheReceiveBuffer : Prop :=
  ∀ (bytes : List Byte) (s : State), ∃ t, execAll (rxLoad bytes) s = .next t
    ∧ t.rxCount.toNat = min bytes.length 14
    ∧ (∀ i v, i < 13 → bytes[i]? = some v → t.rxByte i = v)
    ∧ t = { s with rx := t.rx, rxCount := t.rxCount, rspValid := true, rsp := t.rsp }

/-! ### Unit frame_reassembler -/

/-- 42_frame_reassembler R151: the count is bounded by 16; otherwise the four session registers take their new values,
which are the answer, and nothing else changes (`ACC` is not cleared). -/
def Obligations.StartOpensTheExchange : Prop :=
  ∀ (a b : Byte) (s : State),
    (16 < a.toNat → exec (.rsmStart a b) s = .next (s.answered 0x0500000000#40))
      ∧ (a.toNat ≤ 16 → exec (.rsmStart a b) s = .next { s with
          rsmState := if a.toNat = 0 then .complete else .await
          rsmNext := 0
          rsmExpected := BitVec.ofNat 5 a.toNat
          rsmCmd := b
          rspValid := true
          rsp := packWord 0x00#8 (if a.toNat = 0 then 0x02#8 else 0x01#8) 0x00#8 a b })

/-- 42_frame_reassembler R152 and R153, with the order of tests of 60_exceptions R219: what `RSM.FEED` does with the
frame in `RXBUF` in every state. The premise `rsm_next` < 16 of the accepting case holds in `AWAIT` in every state
that meets `Inv` (10_state R39, item 3). -/
def Obligations.FeedAcceptsOnlyTheExpectedFrame : Prop :=
  ∀ s : State,
    (s.rxCount.toNat ≠ 13 → exec .rsmFeed s = .next (s.answered 0x0200000000#40))
      ∧ (s.rxCount.toNat = 13 → s.rsmState = .idle →
          exec .rsmFeed s = .next (s.answered 0x0600000000#40))
      ∧ (s.rxCount.toNat = 13 → s.rsmState = .failed →
          exec .rsmFeed s = .next (s.answered 0x0400000000#40))
      ∧ (s.rxCount.toNat = 13 → s.rsmState = .complete →
          exec .rsmFeed s = .next (State.answered { s with rsmState := .failed } 0x0400000000#40))
      ∧ (s.rxCount.toNat = 13 → s.rsmState = .await →
          (s.rxByte 4 = 0xFF#8 ∨ (s.rxByte 4).toNat ≠ s.rsmNext.toNat) →
          exec .rsmFeed s = .next (State.answered { s with rsmState := .failed } 0x0400000000#40))
      ∧ (s.rxCount.toNat = 13 → s.rsmState = .await → s.rsmNext.toNat < 16 →
          (s.rxByte 4).toNat = s.rsmNext.toNat →
          ∃ t, exec .rsmFeed s = .next t
            ∧ (∀ j, j < 7 → t.accByte (7 * s.rsmNext.toNat + j) = s.rxByte (5 + j))
            ∧ (∀ i, (i < 7 * s.rsmNext.toNat ∨ 7 * s.rsmNext.toNat + 7 ≤ i) →
                t.accByte i = s.accByte i)
            ∧ t.rsmNext.toNat = s.rsmNext.toNat + 1
            ∧ t.rsmState =
                (if s.rsmNext.toNat + 1 = s.rsmExpected.toNat then .complete else .await)
            ∧ t = { s with
                acc := t.acc
                rsmNext := t.rsmNext
                rsmState := t.rsmState
                rspValid := true
                rsp := packWord 0x00#8
                  (if s.rsmNext.toNat + 1 = s.rsmExpected.toNat then 0x02#8 else 0x01#8)
                  (BitVec.ofNat 8 (s.rsmNext.toNat + 1))
                  (BitVec.ofNat 8 s.rsmExpected.toNat) s.rsmCmd })

/-- 42_frame_reassembler R154: `RSM.STATUS` answers the four session registers and changes nothing; the length of the
readable buffer is 7 times R1 in `COMPLETE` and 0 otherwise, for the offsets `ACC` has. -/
def Obligations.StatusAnswersTheSession : Prop :=
  ∀ s : State,
    exec .rsmStatus s = .next (s.answered
      (packWord 0x00#8
        (if s.rsmState = .idle then 0x00#8
          else if s.rsmState = .await then 0x01#8
          else if s.rsmState = .complete then 0x02#8
          else 0x03#8)
        (BitVec.ofNat 8 s.rsmNext.toNat) (BitVec.ofNat 8 s.rsmExpected.toNat) s.rsmCmd))
      ∧ ∀ a : Byte, a.toNat < 112 →
          (exec (.accRead a) s ≠ .next (s.answered 0x0600000000#40)
            ↔ a.toNat < (if s.rsmState = .complete then 7 * s.rsmNext.toNat else 0))

/-- `ACC.READ` answers the byte exactly in `COMPLETE` and below the reassembled length (42_frame_reassembler R155), and
changes nothing. The bound 112, which the pseudocode of R155 lacks, is 20_memory R52; that it also holds in states no run
reaches is the model's reading (assumption log 11, DEDUCED). -/
def Obligations.AccReadAnswersTheByte : Prop :=
  ∀ (a : Byte) (s : State),
    exec (.accRead a) s = .next (s.answered
      (if s.rsmState = .complete ∧ a.toNat < 7 * s.rsmNext.toNat ∧ a.toNat < 112
        then packWord 0x00#8 (s.accByte a.toNat) 0x00#8 0x00#8 0x00#8
        else 0x0600000000#40))

/-- 42_frame_reassembler R158: in `FAILED` every well-sized feed answers `SequenceError` and changes nothing else, and
only `RSM.START` and reset leave the state. -/
def Obligations.FailedIsTerminal : Prop :=
  ∀ s : State, s.rsmState = .failed →
    (s.rxCount.toNat = 13 → exec .rsmFeed s = .next (s.answered 0x0400000000#40))
      ∧ ∀ (i : Instr) (t : State), exec i s = .next t → (∀ c b, i ≠ .rsmStart c b) →
          i ≠ .sysReset → t.rsmState = .failed

/-- 42_frame_reassembler R161: outside `COMPLETE` no operation's answer depends on the bytes of `ACC`. -/
def Obligations.PartialBufferIsNeverRead : Prop :=
  ∀ (s t : State) (other : Memory) (i : Instr), s.rsmState ≠ .complete →
    exec i s = .next t →
    ∃ u, exec i { s with acc := other } = .next u ∧ u.rsp = t.rsp

/-- 42_frame_reassembler R160 (a): after `RSM.START N, c` and N well-sized frames whose offset-4 bytes are 0 to N - 1
in that order, every feed answered `OK`, the state is `COMPLETE`, offset 7k + j reads byte 5 + j of frame k, and the
readable length is 7N. -/
def Obligations.FramesInOrderAreReassembled : Prop :=
  ∀ (s : State) (c : Byte) (frames : List (List Byte)),
    1 ≤ frames.length → frames.length ≤ 16 → (∀ f ∈ frames, f.length = 13) →
    (∀ k f, frames[k]? = some f → f[4]? = some (BitVec.ofNat 8 k)) →
    (∀ n, 1 ≤ n → n ≤ frames.length →
        ∃ t, execAll (exchange c frames.length (frames.take n)) s = .next t ∧ t.status = 0x00#8)
      ∧ ∃ t, execAll (exchange c frames.length frames) s = .next t
          ∧ t.rsmState = .complete ∧ t.rsmNext.toNat = frames.length
          ∧ (∀ (k j : Nat) (f : List Byte) (v a : Byte), frames[k]? = some f → j < 7 →
              f[5 + j]? = some v → a.toNat = 7 * k + j →
              exec (.accRead a) t = .next (t.answered (packWord 0x00#8 v 0x00#8 0x00#8 0x00#8)))
          ∧ (∀ a : Byte, 7 * frames.length ≤ a.toNat →
              exec (.accRead a) t = .next (t.answered 0x0600000000#40))

/-- 42_frame_reassembler R160 (b): once a frame has been rejected, no sequence of operations without `RSM.START` and
`SYS.RESET` makes a byte of `ACC` readable again. -/
def Obligations.NoReadSucceedsAfterARejection : Prop :=
  ∀ (ops : List Instr) (s t : State), s.rsmState = .failed →
    (∀ i ∈ ops, (∀ c b, i ≠ .rsmStart c b) ∧ i ≠ .sysReset) →
    execAll ops s = .next t →
    t.rsmState = .failed
      ∧ ∀ a : Byte, exec (.accRead a) t = .next (t.answered 0x0600000000#40)

/-- 42_frame_reassembler R160 (c): what a feed does to `ACC`, `rsm_next` and `rsm_state`, and its status, do not depend
on `rsm_cmd`, on the checksum byte, or on offsets 0 to 3 of the frame. -/
def Obligations.FeedIgnoresEnvelopeAndChecksum : Prop :=
  ∀ (s t : State) (other : Memory) (command : Byte),
    (∀ i, 4 ≤ i → i ≤ 11 → memRead .rx other i = s.rxByte i) →
    exec .rsmFeed s = .next t →
    ∃ u, exec .rsmFeed { s with rx := other, rsmCmd := command } = .next u
      ∧ u.acc = t.acc ∧ u.rsmNext = t.rsmNext ∧ u.rsmState = t.rsmState ∧ u.status = t.status

/-! ### Unit command_dispatch_mux -/

/-- 43_command_dispatch_mux R183: `CFG.SET` succeeds once, within the ranges, and writes the four configuration
registers together; its errors are tested in this order and change nothing. -/
def Obligations.ConfigureOnceWithinRange : Prop :=
  ∀ (a b c d : Byte) (s : State),
    (s.cfgValid = true → exec (.cfgSet a b c d) s = .next (s.answered 0x0600000000#40))
      ∧ (s.cfgValid = false → (48 < a.toNat ∨ 16 < b.toNat ∨ 2 ≤ d.toNat) →
          exec (.cfgSet a b c d) s = .next (s.answered 0x0500000000#40))
      ∧ (s.cfgValid = false → a.toNat ≤ 48 → b.toNat ≤ 16 → d.toNat < 2 →
          exec (.cfgSet a b c d) s = .next { s with
            cfgValid := true
            cfgCells := BitVec.ofNat 6 a.toNat
            cfgSensors := BitVec.ofNat 5 b.toNat
            cfgEnable := BitVec.ofNat 9 (256 * d.toNat + c.toNat)
            rspValid := true
            rsp := 0x0000000000#40 })

/-- 43_command_dispatch_mux R184: `CFG.READ` answers the configuration registers and changes nothing. -/
def Obligations.ConfigReadAnswersTheRegisters : Prop :=
  ∀ s : State, exec .cfgRead s = .next (s.answered
    (packWord 0x00#8 (BitVec.ofNat 8 s.cfgCells.toNat) (BitVec.ofNat 8 s.cfgSensors.toNat)
      (BitVec.ofNat 8 (s.cfgEnable.toNat % 256))
      (BitVec.ofNat 8 ((if s.cfgValid = true then 128 else 0) + s.cfgEnable.toNat / 256))))

/-- 43_command_dispatch_mux R185 with R186: the code, the flags, the frame count and the item count of each group, and
`UsageError` before configuration and for an id that names no group. -/
def Obligations.LookupAnswersTheGroup : Prop :=
  ∀ (a : Byte) (s : State),
    ((s.cfgValid = false ∨ 9 ≤ a.toNat) →
        exec (.muxLookup a) s = .next (s.answered 0x0600000000#40))
      ∧ (s.cfgValid = true → ∀ g : TelemetryGroup,
          [TelemetryGroup.soc, .minmaxCellV, .minmaxTemp, .mosStatus, .statusInfo1, .cellVoltages,
            .cellTemps, .cellBalance, .failureStatus][a.toNat]? = some g →
          exec (.muxLookup a) s = .next (s.answered
            (packWord 0x00#8 (Config.cmdCode g)
              (BitVec.ofNat 8 ((if a.toNat = 5 ∨ a.toNat = 6 then 2 else 0)
                  + s.cfgEnable.toNat / 2 ^ a.toNat % 2))
              (BitVec.ofNat 8 (if a.toNat = 5 then (s.cfgCells.toNat + 2) / 3
                  else if a.toNat = 6 then (s.cfgSensors.toNat + 6) / 7 else 1))
              (BitVec.ofNat 8 (if a.toNat = 5 then s.cfgCells.toNat
                  else if a.toNat = 6 then s.cfgSensors.toNat else 0)))))

/-- 43_command_dispatch_mux R186: the frame count of a multi-frame group is the ceiling of items over items per frame,
every other group has one frame, and within the configured maxima the counts are at most 16 and 3. -/
def Obligations.FrameCountIsTheCeiling : Prop :=
  ∀ s : State,
    s.frameCount .cellVoltages = (s.cfgCells.toNat + 2) / 3
      ∧ s.frameCount .cellTemps = (s.cfgSensors.toNat + 6) / 7
      ∧ (∀ g, g ≠ .cellVoltages → g ≠ .cellTemps → s.frameCount g = 1)
      ∧ (∀ k, s.cfgCells.toNat = 3 * k → s.frameCount .cellVoltages = k)
      ∧ (∀ k, s.cfgCells.toNat = 3 * k + 1 → s.frameCount .cellVoltages = k + 1)
      ∧ (∀ k, s.cfgSensors.toNat = 7 * k → s.frameCount .cellTemps = k)
      ∧ (∀ k, s.cfgSensors.toNat = 7 * k + 1 → s.frameCount .cellTemps = k + 1)
      ∧ (s.cfgCells.toNat ≤ 48 → s.frameCount .cellVoltages ≤ 16)
      ∧ (s.cfgSensors.toNat ≤ 16 → s.frameCount .cellTemps ≤ 3)

/-- 43_command_dispatch_mux R188: once configured, only reset changes the four configuration registers, and a lookup
answers the same before and after every other step. -/
def Obligations.ConfigurationIsFixedUntilReset : Prop :=
  ∀ s t : State, s.cfgValid = true → step s = .next t →
    (∀ p rest, s.inputs = p :: rest → p.rst = false ∧ decode p.cmd ≠ .ok .sysReset) →
    t.cfgValid = true ∧ t.cfgCells = s.cfgCells ∧ t.cfgSensors = s.cfgSensors
      ∧ t.cfgEnable = s.cfgEnable
      ∧ ∀ a : Byte, ∃ u v, exec (.muxLookup a) s = .next u ∧ exec (.muxLookup a) t = .next v
          ∧ u.rsp = v.rsp

/-! ### The whole machine -/

/-- The state after reset meets the invariants of 10_state R39. -/
def Obligations.ResetMeetsTheInvariants : Prop := Inv State.reset

/-- 10_state R39: the invariants hold after every step from a state that meets them. -/
def Obligations.EveryStepKeepsTheInvariants : Prop :=
  ∀ s t : State, Inv s → step s = .next t → Inv t

/-- 70_reset_and_hazards R257: the block can never hang. From every state that meets the invariants a step answers a
next state, whatever is presented; so the fault `accOverrun` is out of reach (42_frame_reassembler R156). -/
def Obligations.StepNeverStops : Prop :=
  ∀ s : State, Inv s → ∃ t, step s = .next t

/-- 60_exceptions R218: an operation that answers an error has no other effect on the state, with the single exception
that `RSM.FEED` raising `SequenceError` from `AWAIT` or `COMPLETE` writes `rsm_state <- FAILED`, and always does. -/
def Obligations.ErrorsChangeNothingButFailed : Prop :=
  ∀ (i : Instr) (s t : State), exec i s = .next t → t.status ≠ 0x00#8 →
    t.rsp = packWord t.status 0x00#8 0x00#8 0x00#8 0x00#8
      ∧ if i = .rsmFeed ∧ t.status = 0x04#8 ∧ (s.rsmState = .await ∨ s.rsmState = .complete)
        then t = State.answered { s with rsmState := .failed } t.rsp
        else t = s.answered t.rsp

/-- 60_exceptions R217, with the priorities of R219: the status of every operation in every state. An operation answers
an error exactly where the table has an entry for it, with the error of that column; to the entry of `ACC.READ` the bound
of 20_memory R52 is added (112 and more), which matters only in states no run reaches (assumption log 11, DEDUCED). The
test of an unassigned opcode is `UnassignedOpcodeAnswersUsageError`. -/
def Obligations.ErrorsAreThoseOfTheTable : Prop :=
  ∀ (i : Instr) (s t : State), exec i s = .next t →
    (t.status = 0x02#8 ↔
        (i = .cksVerify 0#8 ∨ i = .pktDecode ∨ i = .rsmFeed) ∧ s.rxCount.toNat ≠ 13)
      ∧ (t.status = 0x04#8 ↔
          i = .rsmFeed ∧ s.rxCount.toNat = 13
            ∧ (s.rsmState = .failed ∨ s.rsmState = .complete
              ∨ (s.rsmState = .await
                ∧ ((s.rxByte 4).toNat ≠ s.rsmNext.toNat ∨ s.rxByte 4 = 0xFF#8))))
      ∧ (t.status = 0x05#8 ↔
          (∃ a b, i = .rsmStart a b ∧ 16 < a.toNat)
            ∨ ∃ a b c d, i = .cfgSet a b c d ∧ s.cfgValid = false
                ∧ (48 < a.toNat ∨ 16 < b.toNat ∨ 2 ≤ d.toNat))
      ∧ (t.status = 0x06#8 ↔
          (∃ a, i = .cksVerify a ∧ (2 ≤ a.toNat ∨ (a.toNat = 1 ∧ s.txValid = false)))
            ∨ (∃ a, i = .txRead a ∧ (s.txValid = false ∨ 13 ≤ a.toNat))
            ∨ (∃ a, i = .rxRead a ∧ min s.rxCount.toNat 13 ≤ a.toNat)
            ∨ (i = .rsmFeed ∧ s.rxCount.toNat = 13 ∧ s.rsmState = .idle)
            ∨ (∃ a, i = .accRead a
                ∧ (s.rsmState ≠ .complete ∨ 7 * s.rsmNext.toNat ≤ a.toNat ∨ 112 ≤ a.toNat))
            ∨ (∃ a b c d, i = .cfgSet a b c d ∧ s.cfgValid = true)
            ∨ ∃ a, i = .muxLookup a ∧ (s.cfgValid = false ∨ 9 ≤ a.toNat))
      ∧ t.status ∈ [0x00#8, 0x02#8, 0x04#8, 0x05#8, 0x06#8]

/-- 20_memory R57: the eight reading operations change no state and may be repeated with the same result. -/
def Obligations.ReadsHaveNoSideEffect : Prop :=
  ∀ (i : Instr) (s : State),
    ((∃ a, i = .txRead a) ∨ (∃ a, i = .rxRead a) ∨ (∃ a, i = .accRead a) ∨ i = .pktDecode
        ∨ (∃ a, i = .cksVerify a) ∨ i = .rsmStatus ∨ i = .cfgRead ∨ (∃ a, i = .muxLookup a)) →
    ∃ w, exec i s = .next (s.answered w) ∧ exec i (s.answered w) = .next (s.answered w)

/-- The operations 10_state lists as writing an item are the only ones that change it (R21 to R33), and no operation
touches the samples still to come. -/
def Obligations.OnlyTheListedOperationsWrite : Prop :=
  ∀ (i : Instr) (s t : State), exec i s = .next t →
    t.inputs = s.inputs
      ∧ (i ≠ .sysReset →
          ((∀ a b, i ≠ .pktEncode a b) → t.tx = s.tx ∧ t.txValid = s.txValid)
          ∧ ((∀ a, i ≠ .rxPush a) → t.rx = s.rx)
          ∧ ((∀ a, i ≠ .rxPush a) → i ≠ .rxClear → t.rxCount = s.rxCount)
          ∧ (i ≠ .rsmFeed → t.acc = s.acc)
          ∧ (i ≠ .rsmFeed → (∀ a b, i ≠ .rsmStart a b) →
              t.rsmState = s.rsmState ∧ t.rsmNext = s.rsmNext)
          ∧ ((∀ a b, i ≠ .rsmStart a b) → t.rsmExpected = s.rsmExpected ∧ t.rsmCmd = s.rsmCmd)
          ∧ ((∀ a b c d, i ≠ .cfgSet a b c d) →
              t.cfgValid = s.cfgValid ∧ t.cfgCells = s.cfgCells ∧ t.cfgSensors = s.cfgSensors
                ∧ t.cfgEnable = s.cfgEnable))

/-- 70_reset_and_hazards R241: in a state that meets the invariants, a `TX.READ`, `RX.READ` or `ACC.READ` that succeeds
reads a byte that has been written since reset. -/
def Obligations.OnlyWrittenBytesAreRead : Prop :=
  ∀ (s t : State) (a : Byte), Inv s →
    (exec (.txRead a) s = .next t → t.status = 0x00#8 → ∃ v, memLookup s.tx a.toNat = some v)
      ∧ (exec (.rxRead a) s = .next t → t.status = 0x00#8 → ∃ v, memLookup s.rx a.toNat = some v)
      ∧ (exec (.accRead a) s = .next t → t.status = 0x00#8 → ∃ v, memLookup s.acc a.toNat = some v)

/-- 10_state R37: the residue of the buffers never influences any response or any later readable byte. Two states that
differ only in residue step to two states that differ only in residue, with the same response. -/
def Obligations.ResidueIsNeverObserved : Prop :=
  ∀ s s' t : State, SameObservable s s' → step s = .next t →
    ∃ t', step s' = .next t' ∧ SameObservable t t'

/-- An operand outside the range of the operation map is answered with an error status and changes nothing
(30_encoding R73, 20_memory R52, 60_exceptions R215 and R216). -/
def Obligations.OperandOutOfRangeIsAnError : Prop :=
  ∀ (i : Instr) (s : State), i.wellFormed = false →
    exec i s = .next (s.answered 0x0500000000#40) ∨ exec i s = .next (s.answered 0x0600000000#40)
end

