-- ==== Sys2Proof/Laws/Config.lean ====
section
/-!
SUPPORT. The named parameters at their numbers (00_scope R4, R5).
-/

namespace Sys2Proof

@[simp] theorem Config.payloadSize_eq : Config.payloadSize = 8 := rfl

@[simp] theorem Config.pktSize_eq : Config.pktSize = 13 := rfl

@[simp] theorem Config.startFlag_eq : Config.startFlag = 0xA5#8 := rfl

@[simp] theorem Config.seqFirst_eq : Config.seqFirst = 0 := rfl

@[simp] theorem Config.seqSentinel_eq : Config.seqSentinel = 0xFF#8 := rfl

@[simp] theorem Config.maxStrings_eq : Config.maxStrings = 48 := rfl

@[simp] theorem Config.maxSensors_eq : Config.maxSensors = 16 := rfl

@[simp] theorem Config.ipfCellV_eq : Config.ipfCellV = 3 := rfl

@[simp] theorem Config.ipfTemp_eq : Config.ipfTemp = 7 := rfl

@[simp] theorem Config.nGroups_eq : Config.nGroups = 9 := rfl

@[simp] theorem Config.frameData_eq : Config.frameData = 7 := rfl

@[simp] theorem Config.maxFrames_eq : Config.maxFrames = 16 := rfl

@[simp] theorem Config.accSize_eq : Config.accSize = 112 := rfl

end Sys2Proof
end

