-- ==== Sys2Proof/Laws/Encoding.lean ====
section
/-!
SUPPORT. The bytes of a packed word: what each field of a word given as its five bytes is, and that a word is its five
bytes.
-/

namespace Sys2Proof

theorem append_byte_toNat {n : Nat} (x : BitVec n) (b : Byte) :
    (x ++ b).toNat = x.toNat * 256 + b.toNat := by
  rw [BitVec.toNat_append, ← Nat.shiftLeft_add_eq_or_of_lt b.isLt, Nat.shiftLeft_eq]

theorem packWord_toNat (op a b c d : Byte) : (packWord op a b c d).toNat =
    (((op.toNat * 256 + a.toNat) * 256 + b.toNat) * 256 + c.toNat) * 256 + d.toNat := by
  show (op ++ a ++ b ++ c ++ d).toNat = _
  simp only [append_byte_toNat]

theorem extract_byte_toNat (w : Word) (start : Nat) :
    (w.extractLsb' start 8).toNat = w.toNat / 2 ^ start % 256 := by
  rw [BitVec.extractLsb'_toNat, Nat.shiftRight_eq_div_pow]

@[simp] theorem fieldOp_packWord (op a b c d : Byte) : fieldOp (packWord op a b c d) = op := by
  apply BitVec.eq_of_toNat_eq
  rw [fieldOp, extract_byte_toNat, packWord_toNat]
  omega

@[simp] theorem fieldA_packWord (op a b c d : Byte) : fieldA (packWord op a b c d) = a := by
  apply BitVec.eq_of_toNat_eq
  rw [fieldA, extract_byte_toNat, packWord_toNat]
  omega

@[simp] theorem fieldB_packWord (op a b c d : Byte) : fieldB (packWord op a b c d) = b := by
  apply BitVec.eq_of_toNat_eq
  rw [fieldB, extract_byte_toNat, packWord_toNat]
  omega

@[simp] theorem fieldC_packWord (op a b c d : Byte) : fieldC (packWord op a b c d) = c := by
  apply BitVec.eq_of_toNat_eq
  rw [fieldC, extract_byte_toNat, packWord_toNat]
  omega

@[simp] theorem fieldD_packWord (op a b c d : Byte) : fieldD (packWord op a b c d) = d := by
  apply BitVec.eq_of_toNat_eq
  rw [fieldD, extract_byte_toNat, packWord_toNat]
  omega

/-- A word is its five bytes. -/
theorem packWord_fields (w : Word) :
    packWord (fieldOp w) (fieldA w) (fieldB w) (fieldC w) (fieldD w) = w := by
  apply BitVec.eq_of_toNat_eq
  rw [packWord_toNat, fieldOp, fieldA, fieldB, fieldC, fieldD]
  simp only [extract_byte_toNat]
  have := w.isLt
  omega

/-- Two packed words are equal exactly when their bytes are. -/
theorem packWord_inj (op a b c d op' a' b' c' d' : Byte) :
    packWord op a b c d = packWord op' a' b' c' d' ↔
      op = op' ∧ a = a' ∧ b = b' ∧ c = c' ∧ d = d' := by
  refine ⟨fun h => ⟨?_, ?_, ?_, ?_, ?_⟩, fun ⟨h1, h2, h3, h4, h5⟩ => by rw [h1, h2, h3, h4, h5]⟩
  · simpa using congrArg fieldOp h
  · simpa using congrArg fieldA h
  · simpa using congrArg fieldB h
  · simpa using congrArg fieldC h
  · simpa using congrArg fieldD h

end Sys2Proof
end

