-- ==== Sys2Proof/Laws/Memory.lean ====
section
/-!
SUPPORT. Laws of the buffers: a read after a write to the same index gives the value written, a write leaves every
other index alone, and writes keep the canonical form.
-/

namespace Sys2Proof.Machine

@[simp] theorem memLookup_nil (i : Nat) : memLookup [] i = none := rfl

theorem memLookup_memWrite (m : Memory) (i j : Nat) (v : Byte) :
    memLookup (memWrite m i v) j = if j = i then some v else memLookup m j := by
  induction m with
  | nil => simp [memWrite, memLookup, eq_comm]
  | cons c rest ih =>
    obtain ⟨k, u⟩ := c
    simp only [memWrite]
    split
    · simp only [memLookup, eq_comm]
    · split
      · subst_vars
        simp only [memLookup, eq_comm]
        split <;> rfl
      · simp only [memLookup, ih]
        split <;> split <;> first | rfl | omega

@[simp] theorem memLookup_memWrite_self (m : Memory) (i : Nat) (v : Byte) :
    memLookup (memWrite m i v) i = some v := by
  simp [memLookup_memWrite]

theorem memRead_memWrite (b : Buffer) (m : Memory) (i j : Nat) (v : Byte) :
    memRead b (memWrite m i v) j = if j = i then v else memRead b m j := by
  unfold memRead
  rw [memLookup_memWrite]
  split <;> rfl

theorem memLookup_memWriteList (m : Memory) (base : Nat) (vs : List Byte) (j : Nat) :
    memLookup (memWriteList m base vs) j =
      if base ≤ j ∧ j < base + vs.length then vs[j - base]? else memLookup m j := by
  induction vs generalizing m base with
  | nil => simp [memWriteList]
  | cons v vs ih =>
    simp only [memWriteList, ih, memLookup_memWrite, List.length_cons]
    by_cases h : j = base
    · subst h
      simp
    · by_cases h2 : base + 1 ≤ j ∧ j < base + 1 + vs.length
      · have h3 : base ≤ j ∧ j < base + (vs.length + 1) := by omega
        obtain ⟨k, rfl⟩ : ∃ k, j = base + 1 + k := ⟨j - (base + 1), by omega⟩
        have e1 : base + 1 + k - (base + 1) = k := by omega
        have e2 : base + 1 + k - base = k + 1 := by omega
        rw [if_pos h2, if_pos h3, e1, e2, List.getElem?_cons_succ]
      · have h3 : ¬(base ≤ j ∧ j < base + (vs.length + 1)) := by omega
        rw [if_neg h2, if_neg h3, if_neg h]

/-- Inside the written range, a read gives the byte of the list. -/
theorem memRead_memWriteList_inside (b : Buffer) (m : Memory) (base : Nat) (vs : List Byte) (k : Nat)
    (v : Byte) (h : vs[k]? = some v) : memRead b (memWriteList m base vs) (base + k) = v := by
  have hk : k < vs.length := (List.getElem?_eq_some_iff.mp h).1
  unfold memRead
  rw [memLookup_memWriteList, if_pos (by omega)]
  simp [h]

/-- Outside the written range, a read gives what it gave. -/
theorem memRead_memWriteList_outside (b : Buffer) (m : Memory) (base : Nat) (vs : List Byte) (j : Nat)
    (h : j < base ∨ base + vs.length ≤ j) : memRead b (memWriteList m base vs) j = memRead b m j := by
  unfold memRead
  rw [memLookup_memWriteList, if_neg (by omega)]

@[simp] theorem memReadList_length (b : Buffer) (m : Memory) (base n : Nat) :
    (memReadList b m base n).length = n := by
  simp [memReadList]

theorem memReadList_getElem? (b : Buffer) (m : Memory) (base n k : Nat) (h : k < n) :
    (memReadList b m base n)[k]? = some (memRead b m (base + k)) := by
  simp [memReadList, h]

/-! ### The canonical form -/

@[simp] theorem Memory.wf_nil (size : Nat) : Memory.wf size [] = true := rfl

theorem Memory.wf_cons_iff (size i : Nat) (v : Byte) (rest : Memory) :
    Memory.wf size ((i, v) :: rest) = true ↔
      i < size ∧ Memory.wf size rest = true ∧ ∀ c ∈ rest.head?, i < c.1 := by
  induction rest generalizing i v with
  | nil => simp [Memory.wf]
  | cons c rest ih =>
    obtain ⟨j, u⟩ := c
    have := ih j u
    simp only [Memory.wf, Bool.and_eq_true, decide_eq_true_eq, List.head?_cons, Option.mem_some_iff,
      forall_eq']
    constructor
    · rintro ⟨h1, h2⟩
      exact ⟨by have := (this.mp h2).1; omega, h2, h1⟩
    · rintro ⟨_, h2, h1⟩
      exact ⟨h1, h2⟩

theorem memWrite_head? (m : Memory) (i : Nat) (v : Byte) :
    ∀ c ∈ (memWrite m i v).head?, c.1 = i ∨ ∃ d ∈ m.head?, c.1 = d.1 := by
  cases m with
  | nil => simp [memWrite]
  | cons c rest =>
    obtain ⟨j, u⟩ := c
    simp only [memWrite]
    split
    · simp
    · split <;> simp

/-- A write inside the buffer keeps the canonical form. -/
theorem memWrite_wf (size : Nat) (m : Memory) (i : Nat) (v : Byte) (hi : i < size)
    (h : Memory.wf size m = true) : Memory.wf size (memWrite m i v) = true := by
  induction m with
  | nil => simpa [memWrite, Memory.wf] using hi
  | cons c rest ih =>
    obtain ⟨j, u⟩ := c
    obtain ⟨hj, hr, hh⟩ := (Memory.wf_cons_iff size j u rest).mp h
    simp only [memWrite]
    split
    · rename_i hlt
      exact (Memory.wf_cons_iff ..).mpr ⟨hi, h, by simpa using hlt⟩
    · split
      · rename_i heq
        exact (Memory.wf_cons_iff ..).mpr ⟨hi, hr, by rw [heq]; exact hh⟩
      · refine (Memory.wf_cons_iff ..).mpr ⟨hj, ih hr, fun c hc => ?_⟩
        rcases memWrite_head? rest i v c hc with h' | ⟨d, hd, h'⟩
        · omega
        · rw [h']; exact hh d hd

/-- A list of writes inside the buffer keeps the canonical form. -/
theorem memWriteList_wf (size : Nat) (m : Memory) (base : Nat) (vs : List Byte)
    (hb : base + vs.length ≤ size) (h : Memory.wf size m = true) :
    Memory.wf size (memWriteList m base vs) = true := by
  induction vs generalizing m base with
  | nil => simpa [memWriteList] using h
  | cons v vs ih =>
    simp only [List.length_cons] at hb
    exact ih _ _ (by omega) (memWrite_wf size m base v (by omega) h)

/-- Two canonical lists that list the same bytes are the same list: equal memories are equal data. -/
theorem Memory.wf_ext (size : Nat) (m n : Memory) (hm : Memory.wf size m = true)
    (hn : Memory.wf size n = true) (h : ∀ i, memLookup m i = memLookup n i) : m = n := by
  have below : ∀ (m : Memory) (j : Nat), Memory.wf size m = true → (∀ c ∈ m.head?, j < c.1) →
      memLookup m j = none := by
    intro m
    induction m with
    | nil => simp
    | cons c rest ih =>
      obtain ⟨k, u⟩ := c
      intro j hw hj
      obtain ⟨_, hr, hh⟩ := (Memory.wf_cons_iff ..).mp hw
      have hjk : j < k := by simpa using hj
      rw [memLookup, if_neg (by omega)]
      exact ih j hr fun c hc => lt_trans hjk (hh c hc)
  induction m generalizing n with
  | nil =>
    cases n with
    | nil => rfl
    | cons c rest => obtain ⟨k, u⟩ := c; have := h k; simp [memLookup] at this
  | cons c rest ih =>
    obtain ⟨k, u⟩ := c
    obtain ⟨_, hr, hh⟩ := (Memory.wf_cons_iff ..).mp hm
    cases n with
    | nil => have := h k; simp [memLookup] at this
    | cons d rest' =>
      obtain ⟨l, w⟩ := d
      obtain ⟨_, hr', hh'⟩ := (Memory.wf_cons_iff ..).mp hn
      have hkl : k = l := by
        rcases lt_trichotomy k l with hlt | heq | hgt
        · have h1 := h k
          rw [below _ k hn (by simpa using hlt), memLookup, if_pos rfl] at h1
          cases h1
        · exact heq
        · have h1 := h l
          rw [below _ l hm (by simpa using hgt), memLookup, if_pos rfl] at h1
          cases h1
      subst hkl
      have hv : u = w := by simpa [memLookup] using h k
      subst hv
      rw [ih rest' hr hr' fun i => ?_]
      by_cases hi : k = i
      · subst hi
        rw [below rest k hr hh, below rest' k hr' hh']
      · have := h i
        simpa [memLookup, hi] using this

end Sys2Proof.Machine
end

