-- ==== Sys2Proof/Laws/State.lean ====
section
/-!
SUPPORT. What each named update of the state does to each field. Later proofs cite these (they are simp lemmas) and
unfold no record update.
-/

namespace Sys2Proof.Machine

variable (s : State)

/-! ### `State.respond` -/

@[simp] theorem State.respond_tx (r : Response) : (s.respond r).tx = s.tx := rfl
@[simp] theorem State.respond_txValid (r : Response) : (s.respond r).txValid = s.txValid := rfl
@[simp] theorem State.respond_rx (r : Response) : (s.respond r).rx = s.rx := rfl
@[simp] theorem State.respond_rxCount (r : Response) : (s.respond r).rxCount = s.rxCount := rfl
@[simp] theorem State.respond_acc (r : Response) : (s.respond r).acc = s.acc := rfl
@[simp] theorem State.respond_cfgValid (r : Response) : (s.respond r).cfgValid = s.cfgValid := rfl
@[simp] theorem State.respond_cfgCells (r : Response) : (s.respond r).cfgCells = s.cfgCells := rfl
@[simp] theorem State.respond_cfgSensors (r : Response) : (s.respond r).cfgSensors = s.cfgSensors := rfl
@[simp] theorem State.respond_cfgEnable (r : Response) : (s.respond r).cfgEnable = s.cfgEnable := rfl
@[simp] theorem State.respond_rsmState (r : Response) : (s.respond r).rsmState = s.rsmState := rfl
@[simp] theorem State.respond_rsmNext (r : Response) : (s.respond r).rsmNext = s.rsmNext := rfl
@[simp] theorem State.respond_rsmExpected (r : Response) : (s.respond r).rsmExpected = s.rsmExpected := rfl
@[simp] theorem State.respond_rsmCmd (r : Response) : (s.respond r).rsmCmd = s.rsmCmd := rfl
@[simp] theorem State.respond_inputs (r : Response) : (s.respond r).inputs = s.inputs := rfl
@[simp] theorem State.respond_rspValid (r : Response) : (s.respond r).rspValid = true := rfl
@[simp] theorem State.respond_rsp (r : Response) : (s.respond r).rsp = r.word := rfl

/-! ### `State.raise` -/

@[simp] theorem State.raise_tx (e : ErrorKind) : (s.raise e).tx = s.tx := rfl
@[simp] theorem State.raise_txValid (e : ErrorKind) : (s.raise e).txValid = s.txValid := rfl
@[simp] theorem State.raise_rx (e : ErrorKind) : (s.raise e).rx = s.rx := rfl
@[simp] theorem State.raise_rxCount (e : ErrorKind) : (s.raise e).rxCount = s.rxCount := rfl
@[simp] theorem State.raise_acc (e : ErrorKind) : (s.raise e).acc = s.acc := rfl
@[simp] theorem State.raise_cfgValid (e : ErrorKind) : (s.raise e).cfgValid = s.cfgValid := rfl
@[simp] theorem State.raise_cfgCells (e : ErrorKind) : (s.raise e).cfgCells = s.cfgCells := rfl
@[simp] theorem State.raise_cfgSensors (e : ErrorKind) : (s.raise e).cfgSensors = s.cfgSensors := rfl
@[simp] theorem State.raise_cfgEnable (e : ErrorKind) : (s.raise e).cfgEnable = s.cfgEnable := rfl
@[simp] theorem State.raise_rsmState (e : ErrorKind) : (s.raise e).rsmState = s.rsmState := rfl
@[simp] theorem State.raise_rsmNext (e : ErrorKind) : (s.raise e).rsmNext = s.rsmNext := rfl
@[simp] theorem State.raise_rsmExpected (e : ErrorKind) : (s.raise e).rsmExpected = s.rsmExpected := rfl
@[simp] theorem State.raise_rsmCmd (e : ErrorKind) : (s.raise e).rsmCmd = s.rsmCmd := rfl
@[simp] theorem State.raise_inputs (e : ErrorKind) : (s.raise e).inputs = s.inputs := rfl
@[simp] theorem State.raise_rspValid (e : ErrorKind) : (s.raise e).rspValid = true := rfl
@[simp] theorem State.raise_rsp (e : ErrorKind) : (s.raise e).rsp = Response.word { status := e.code } := rfl

/-! ### `State.loadTx` -/

@[simp] theorem State.loadTx_tx (packet : List Byte) : (s.loadTx packet).tx = memWriteList s.tx 0 packet := rfl
@[simp] theorem State.loadTx_txValid (packet : List Byte) : (s.loadTx packet).txValid = true := rfl
@[simp] theorem State.loadTx_rx (packet : List Byte) : (s.loadTx packet).rx = s.rx := rfl
@[simp] theorem State.loadTx_rxCount (packet : List Byte) : (s.loadTx packet).rxCount = s.rxCount := rfl
@[simp] theorem State.loadTx_acc (packet : List Byte) : (s.loadTx packet).acc = s.acc := rfl
@[simp] theorem State.loadTx_cfgValid (packet : List Byte) : (s.loadTx packet).cfgValid = s.cfgValid := rfl
@[simp] theorem State.loadTx_cfgCells (packet : List Byte) : (s.loadTx packet).cfgCells = s.cfgCells := rfl
@[simp] theorem State.loadTx_cfgSensors (packet : List Byte) : (s.loadTx packet).cfgSensors = s.cfgSensors := rfl
@[simp] theorem State.loadTx_cfgEnable (packet : List Byte) : (s.loadTx packet).cfgEnable = s.cfgEnable := rfl
@[simp] theorem State.loadTx_rsmState (packet : List Byte) : (s.loadTx packet).rsmState = s.rsmState := rfl
@[simp] theorem State.loadTx_rsmNext (packet : List Byte) : (s.loadTx packet).rsmNext = s.rsmNext := rfl
@[simp] theorem State.loadTx_rsmExpected (packet : List Byte) : (s.loadTx packet).rsmExpected = s.rsmExpected := rfl
@[simp] theorem State.loadTx_rsmCmd (packet : List Byte) : (s.loadTx packet).rsmCmd = s.rsmCmd := rfl
@[simp] theorem State.loadTx_inputs (packet : List Byte) : (s.loadTx packet).inputs = s.inputs := rfl
@[simp] theorem State.loadTx_rspValid (packet : List Byte) : (s.loadTx packet).rspValid = s.rspValid := rfl
@[simp] theorem State.loadTx_rsp (packet : List Byte) : (s.loadTx packet).rsp = s.rsp := rfl

/-! ### `State.setRxCount` -/

@[simp] theorem State.setRxCount_tx (n : BitVec 4) : (s.setRxCount n).tx = s.tx := rfl
@[simp] theorem State.setRxCount_txValid (n : BitVec 4) : (s.setRxCount n).txValid = s.txValid := rfl
@[simp] theorem State.setRxCount_rx (n : BitVec 4) : (s.setRxCount n).rx = s.rx := rfl
@[simp] theorem State.setRxCount_rxCount (n : BitVec 4) : (s.setRxCount n).rxCount = n := rfl
@[simp] theorem State.setRxCount_acc (n : BitVec 4) : (s.setRxCount n).acc = s.acc := rfl
@[simp] theorem State.setRxCount_cfgValid (n : BitVec 4) : (s.setRxCount n).cfgValid = s.cfgValid := rfl
@[simp] theorem State.setRxCount_cfgCells (n : BitVec 4) : (s.setRxCount n).cfgCells = s.cfgCells := rfl
@[simp] theorem State.setRxCount_cfgSensors (n : BitVec 4) : (s.setRxCount n).cfgSensors = s.cfgSensors := rfl
@[simp] theorem State.setRxCount_cfgEnable (n : BitVec 4) : (s.setRxCount n).cfgEnable = s.cfgEnable := rfl
@[simp] theorem State.setRxCount_rsmState (n : BitVec 4) : (s.setRxCount n).rsmState = s.rsmState := rfl
@[simp] theorem State.setRxCount_rsmNext (n : BitVec 4) : (s.setRxCount n).rsmNext = s.rsmNext := rfl
@[simp] theorem State.setRxCount_rsmExpected (n : BitVec 4) : (s.setRxCount n).rsmExpected = s.rsmExpected := rfl
@[simp] theorem State.setRxCount_rsmCmd (n : BitVec 4) : (s.setRxCount n).rsmCmd = s.rsmCmd := rfl
@[simp] theorem State.setRxCount_inputs (n : BitVec 4) : (s.setRxCount n).inputs = s.inputs := rfl
@[simp] theorem State.setRxCount_rspValid (n : BitVec 4) : (s.setRxCount n).rspValid = s.rspValid := rfl
@[simp] theorem State.setRxCount_rsp (n : BitVec 4) : (s.setRxCount n).rsp = s.rsp := rfl

/-! ### `State.storeRx` -/

@[simp] theorem State.storeRx_tx (i : Nat) (v : Byte) : (s.storeRx i v).tx = s.tx := rfl
@[simp] theorem State.storeRx_txValid (i : Nat) (v : Byte) : (s.storeRx i v).txValid = s.txValid := rfl
@[simp] theorem State.storeRx_rx (i : Nat) (v : Byte) : (s.storeRx i v).rx = memWrite s.rx i v := rfl
@[simp] theorem State.storeRx_rxCount (i : Nat) (v : Byte) : (s.storeRx i v).rxCount = s.rxCount := rfl
@[simp] theorem State.storeRx_acc (i : Nat) (v : Byte) : (s.storeRx i v).acc = s.acc := rfl
@[simp] theorem State.storeRx_cfgValid (i : Nat) (v : Byte) : (s.storeRx i v).cfgValid = s.cfgValid := rfl
@[simp] theorem State.storeRx_cfgCells (i : Nat) (v : Byte) : (s.storeRx i v).cfgCells = s.cfgCells := rfl
@[simp] theorem State.storeRx_cfgSensors (i : Nat) (v : Byte) : (s.storeRx i v).cfgSensors = s.cfgSensors := rfl
@[simp] theorem State.storeRx_cfgEnable (i : Nat) (v : Byte) : (s.storeRx i v).cfgEnable = s.cfgEnable := rfl
@[simp] theorem State.storeRx_rsmState (i : Nat) (v : Byte) : (s.storeRx i v).rsmState = s.rsmState := rfl
@[simp] theorem State.storeRx_rsmNext (i : Nat) (v : Byte) : (s.storeRx i v).rsmNext = s.rsmNext := rfl
@[simp] theorem State.storeRx_rsmExpected (i : Nat) (v : Byte) : (s.storeRx i v).rsmExpected = s.rsmExpected := rfl
@[simp] theorem State.storeRx_rsmCmd (i : Nat) (v : Byte) : (s.storeRx i v).rsmCmd = s.rsmCmd := rfl
@[simp] theorem State.storeRx_inputs (i : Nat) (v : Byte) : (s.storeRx i v).inputs = s.inputs := rfl
@[simp] theorem State.storeRx_rspValid (i : Nat) (v : Byte) : (s.storeRx i v).rspValid = s.rspValid := rfl
@[simp] theorem State.storeRx_rsp (i : Nat) (v : Byte) : (s.storeRx i v).rsp = s.rsp := rfl

/-! ### `State.storeAcc` -/

@[simp] theorem State.storeAcc_tx (base : Nat) (bytes : List Byte) : (s.storeAcc base bytes).tx = s.tx := rfl
@[simp] theorem State.storeAcc_txValid (base : Nat) (bytes : List Byte) : (s.storeAcc base bytes).txValid = s.txValid := rfl
@[simp] theorem State.storeAcc_rx (base : Nat) (bytes : List Byte) : (s.storeAcc base bytes).rx = s.rx := rfl
@[simp] theorem State.storeAcc_rxCount (base : Nat) (bytes : List Byte) : (s.storeAcc base bytes).rxCount = s.rxCount := rfl
@[simp] theorem State.storeAcc_acc (base : Nat) (bytes : List Byte) : (s.storeAcc base bytes).acc = memWriteList s.acc base bytes := rfl
@[simp] theorem State.storeAcc_cfgValid (base : Nat) (bytes : List Byte) : (s.storeAcc base bytes).cfgValid = s.cfgValid := rfl
@[simp] theorem State.storeAcc_cfgCells (base : Nat) (bytes : List Byte) : (s.storeAcc base bytes).cfgCells = s.cfgCells := rfl
@[simp] theorem State.storeAcc_cfgSensors (base : Nat) (bytes : List Byte) : (s.storeAcc base bytes).cfgSensors = s.cfgSensors := rfl
@[simp] theorem State.storeAcc_cfgEnable (base : Nat) (bytes : List Byte) : (s.storeAcc base bytes).cfgEnable = s.cfgEnable := rfl
@[simp] theorem State.storeAcc_rsmState (base : Nat) (bytes : List Byte) : (s.storeAcc base bytes).rsmState = s.rsmState := rfl
@[simp] theorem State.storeAcc_rsmNext (base : Nat) (bytes : List Byte) : (s.storeAcc base bytes).rsmNext = s.rsmNext := rfl
@[simp] theorem State.storeAcc_rsmExpected (base : Nat) (bytes : List Byte) : (s.storeAcc base bytes).rsmExpected = s.rsmExpected := rfl
@[simp] theorem State.storeAcc_rsmCmd (base : Nat) (bytes : List Byte) : (s.storeAcc base bytes).rsmCmd = s.rsmCmd := rfl
@[simp] theorem State.storeAcc_inputs (base : Nat) (bytes : List Byte) : (s.storeAcc base bytes).inputs = s.inputs := rfl
@[simp] theorem State.storeAcc_rspValid (base : Nat) (bytes : List Byte) : (s.storeAcc base bytes).rspValid = s.rspValid := rfl
@[simp] theorem State.storeAcc_rsp (base : Nat) (bytes : List Byte) : (s.storeAcc base bytes).rsp = s.rsp := rfl

/-! ### `State.setRsmState` -/

@[simp] theorem State.setRsmState_tx (st : RsmState) : (s.setRsmState st).tx = s.tx := rfl
@[simp] theorem State.setRsmState_txValid (st : RsmState) : (s.setRsmState st).txValid = s.txValid := rfl
@[simp] theorem State.setRsmState_rx (st : RsmState) : (s.setRsmState st).rx = s.rx := rfl
@[simp] theorem State.setRsmState_rxCount (st : RsmState) : (s.setRsmState st).rxCount = s.rxCount := rfl
@[simp] theorem State.setRsmState_acc (st : RsmState) : (s.setRsmState st).acc = s.acc := rfl
@[simp] theorem State.setRsmState_cfgValid (st : RsmState) : (s.setRsmState st).cfgValid = s.cfgValid := rfl
@[simp] theorem State.setRsmState_cfgCells (st : RsmState) : (s.setRsmState st).cfgCells = s.cfgCells := rfl
@[simp] theorem State.setRsmState_cfgSensors (st : RsmState) : (s.setRsmState st).cfgSensors = s.cfgSensors := rfl
@[simp] theorem State.setRsmState_cfgEnable (st : RsmState) : (s.setRsmState st).cfgEnable = s.cfgEnable := rfl
@[simp] theorem State.setRsmState_rsmState (st : RsmState) : (s.setRsmState st).rsmState = st := rfl
@[simp] theorem State.setRsmState_rsmNext (st : RsmState) : (s.setRsmState st).rsmNext = s.rsmNext := rfl
@[simp] theorem State.setRsmState_rsmExpected (st : RsmState) : (s.setRsmState st).rsmExpected = s.rsmExpected := rfl
@[simp] theorem State.setRsmState_rsmCmd (st : RsmState) : (s.setRsmState st).rsmCmd = s.rsmCmd := rfl
@[simp] theorem State.setRsmState_inputs (st : RsmState) : (s.setRsmState st).inputs = s.inputs := rfl
@[simp] theorem State.setRsmState_rspValid (st : RsmState) : (s.setRsmState st).rspValid = s.rspValid := rfl
@[simp] theorem State.setRsmState_rsp (st : RsmState) : (s.setRsmState st).rsp = s.rsp := rfl

/-! ### `State.setRsmNext` -/

@[simp] theorem State.setRsmNext_tx (n : BitVec 5) : (s.setRsmNext n).tx = s.tx := rfl
@[simp] theorem State.setRsmNext_txValid (n : BitVec 5) : (s.setRsmNext n).txValid = s.txValid := rfl
@[simp] theorem State.setRsmNext_rx (n : BitVec 5) : (s.setRsmNext n).rx = s.rx := rfl
@[simp] theorem State.setRsmNext_rxCount (n : BitVec 5) : (s.setRsmNext n).rxCount = s.rxCount := rfl
@[simp] theorem State.setRsmNext_acc (n : BitVec 5) : (s.setRsmNext n).acc = s.acc := rfl
@[simp] theorem State.setRsmNext_cfgValid (n : BitVec 5) : (s.setRsmNext n).cfgValid = s.cfgValid := rfl
@[simp] theorem State.setRsmNext_cfgCells (n : BitVec 5) : (s.setRsmNext n).cfgCells = s.cfgCells := rfl
@[simp] theorem State.setRsmNext_cfgSensors (n : BitVec 5) : (s.setRsmNext n).cfgSensors = s.cfgSensors := rfl
@[simp] theorem State.setRsmNext_cfgEnable (n : BitVec 5) : (s.setRsmNext n).cfgEnable = s.cfgEnable := rfl
@[simp] theorem State.setRsmNext_rsmState (n : BitVec 5) : (s.setRsmNext n).rsmState = s.rsmState := rfl
@[simp] theorem State.setRsmNext_rsmNext (n : BitVec 5) : (s.setRsmNext n).rsmNext = n := rfl
@[simp] theorem State.setRsmNext_rsmExpected (n : BitVec 5) : (s.setRsmNext n).rsmExpected = s.rsmExpected := rfl
@[simp] theorem State.setRsmNext_rsmCmd (n : BitVec 5) : (s.setRsmNext n).rsmCmd = s.rsmCmd := rfl
@[simp] theorem State.setRsmNext_inputs (n : BitVec 5) : (s.setRsmNext n).inputs = s.inputs := rfl
@[simp] theorem State.setRsmNext_rspValid (n : BitVec 5) : (s.setRsmNext n).rspValid = s.rspValid := rfl
@[simp] theorem State.setRsmNext_rsp (n : BitVec 5) : (s.setRsmNext n).rsp = s.rsp := rfl

/-! ### `State.setSession` -/

@[simp] theorem State.setSession_tx (st : RsmState) (n e : BitVec 5) (c : Byte) : (s.setSession st n e c).tx = s.tx := rfl
@[simp] theorem State.setSession_txValid (st : RsmState) (n e : BitVec 5) (c : Byte) : (s.setSession st n e c).txValid = s.txValid := rfl
@[simp] theorem State.setSession_rx (st : RsmState) (n e : BitVec 5) (c : Byte) : (s.setSession st n e c).rx = s.rx := rfl
@[simp] theorem State.setSession_rxCount (st : RsmState) (n e : BitVec 5) (c : Byte) : (s.setSession st n e c).rxCount = s.rxCount := rfl
@[simp] theorem State.setSession_acc (st : RsmState) (n e : BitVec 5) (c : Byte) : (s.setSession st n e c).acc = s.acc := rfl
@[simp] theorem State.setSession_cfgValid (st : RsmState) (n e : BitVec 5) (c : Byte) : (s.setSession st n e c).cfgValid = s.cfgValid := rfl
@[simp] theorem State.setSession_cfgCells (st : RsmState) (n e : BitVec 5) (c : Byte) : (s.setSession st n e c).cfgCells = s.cfgCells := rfl
@[simp] theorem State.setSession_cfgSensors (st : RsmState) (n e : BitVec 5) (c : Byte) : (s.setSession st n e c).cfgSensors = s.cfgSensors := rfl
@[simp] theorem State.setSession_cfgEnable (st : RsmState) (n e : BitVec 5) (c : Byte) : (s.setSession st n e c).cfgEnable = s.cfgEnable := rfl
@[simp] theorem State.setSession_rsmState (st : RsmState) (n e : BitVec 5) (c : Byte) : (s.setSession st n e c).rsmState = st := rfl
@[simp] theorem State.setSession_rsmNext (st : RsmState) (n e : BitVec 5) (c : Byte) : (s.setSession st n e c).rsmNext = n := rfl
@[simp] theorem State.setSession_rsmExpected (st : RsmState) (n e : BitVec 5) (c : Byte) : (s.setSession st n e c).rsmExpected = e := rfl
@[simp] theorem State.setSession_rsmCmd (st : RsmState) (n e : BitVec 5) (c : Byte) : (s.setSession st n e c).rsmCmd = c := rfl
@[simp] theorem State.setSession_inputs (st : RsmState) (n e : BitVec 5) (c : Byte) : (s.setSession st n e c).inputs = s.inputs := rfl
@[simp] theorem State.setSession_rspValid (st : RsmState) (n e : BitVec 5) (c : Byte) : (s.setSession st n e c).rspValid = s.rspValid := rfl
@[simp] theorem State.setSession_rsp (st : RsmState) (n e : BitVec 5) (c : Byte) : (s.setSession st n e c).rsp = s.rsp := rfl

/-! ### `State.setConfig` -/

@[simp] theorem State.setConfig_tx (c : BitVec 6) (t : BitVec 5) (e : BitVec 9) : (s.setConfig c t e).tx = s.tx := rfl
@[simp] theorem State.setConfig_txValid (c : BitVec 6) (t : BitVec 5) (e : BitVec 9) : (s.setConfig c t e).txValid = s.txValid := rfl
@[simp] theorem State.setConfig_rx (c : BitVec 6) (t : BitVec 5) (e : BitVec 9) : (s.setConfig c t e).rx = s.rx := rfl
@[simp] theorem State.setConfig_rxCount (c : BitVec 6) (t : BitVec 5) (e : BitVec 9) : (s.setConfig c t e).rxCount = s.rxCount := rfl
@[simp] theorem State.setConfig_acc (c : BitVec 6) (t : BitVec 5) (e : BitVec 9) : (s.setConfig c t e).acc = s.acc := rfl
@[simp] theorem State.setConfig_cfgValid (c : BitVec 6) (t : BitVec 5) (e : BitVec 9) : (s.setConfig c t e).cfgValid = true := rfl
@[simp] theorem State.setConfig_cfgCells (c : BitVec 6) (t : BitVec 5) (e : BitVec 9) : (s.setConfig c t e).cfgCells = c := rfl
@[simp] theorem State.setConfig_cfgSensors (c : BitVec 6) (t : BitVec 5) (e : BitVec 9) : (s.setConfig c t e).cfgSensors = t := rfl
@[simp] theorem State.setConfig_cfgEnable (c : BitVec 6) (t : BitVec 5) (e : BitVec 9) : (s.setConfig c t e).cfgEnable = e := rfl
@[simp] theorem State.setConfig_rsmState (c : BitVec 6) (t : BitVec 5) (e : BitVec 9) : (s.setConfig c t e).rsmState = s.rsmState := rfl
@[simp] theorem State.setConfig_rsmNext (c : BitVec 6) (t : BitVec 5) (e : BitVec 9) : (s.setConfig c t e).rsmNext = s.rsmNext := rfl
@[simp] theorem State.setConfig_rsmExpected (c : BitVec 6) (t : BitVec 5) (e : BitVec 9) : (s.setConfig c t e).rsmExpected = s.rsmExpected := rfl
@[simp] theorem State.setConfig_rsmCmd (c : BitVec 6) (t : BitVec 5) (e : BitVec 9) : (s.setConfig c t e).rsmCmd = s.rsmCmd := rfl
@[simp] theorem State.setConfig_inputs (c : BitVec 6) (t : BitVec 5) (e : BitVec 9) : (s.setConfig c t e).inputs = s.inputs := rfl
@[simp] theorem State.setConfig_rspValid (c : BitVec 6) (t : BitVec 5) (e : BitVec 9) : (s.setConfig c t e).rspValid = s.rspValid := rfl
@[simp] theorem State.setConfig_rsp (c : BitVec 6) (t : BitVec 5) (e : BitVec 9) : (s.setConfig c t e).rsp = s.rsp := rfl

/-! ### `State.resetRegisters` -/

@[simp] theorem State.resetRegisters_tx : s.resetRegisters.tx = [] := rfl
@[simp] theorem State.resetRegisters_txValid : s.resetRegisters.txValid = false := rfl
@[simp] theorem State.resetRegisters_rx : s.resetRegisters.rx = [] := rfl
@[simp] theorem State.resetRegisters_rxCount : s.resetRegisters.rxCount = 0 := rfl
@[simp] theorem State.resetRegisters_acc : s.resetRegisters.acc = [] := rfl
@[simp] theorem State.resetRegisters_cfgValid : s.resetRegisters.cfgValid = false := rfl
@[simp] theorem State.resetRegisters_cfgCells : s.resetRegisters.cfgCells = 0 := rfl
@[simp] theorem State.resetRegisters_cfgSensors : s.resetRegisters.cfgSensors = 0 := rfl
@[simp] theorem State.resetRegisters_cfgEnable : s.resetRegisters.cfgEnable = 0 := rfl
@[simp] theorem State.resetRegisters_rsmState : s.resetRegisters.rsmState = .idle := rfl
@[simp] theorem State.resetRegisters_rsmNext : s.resetRegisters.rsmNext = 0 := rfl
@[simp] theorem State.resetRegisters_rsmExpected : s.resetRegisters.rsmExpected = 0 := rfl
@[simp] theorem State.resetRegisters_rsmCmd : s.resetRegisters.rsmCmd = 0 := rfl
@[simp] theorem State.resetRegisters_inputs : s.resetRegisters.inputs = s.inputs := rfl
@[simp] theorem State.resetRegisters_rspValid : s.resetRegisters.rspValid = s.rspValid := rfl
@[simp] theorem State.resetRegisters_rsp : s.resetRegisters.rsp = s.rsp := rfl

/-! ### `State.assertReset` -/

@[simp] theorem State.assertReset_tx : s.assertReset.tx = [] := rfl
@[simp] theorem State.assertReset_txValid : s.assertReset.txValid = false := rfl
@[simp] theorem State.assertReset_rx : s.assertReset.rx = [] := rfl
@[simp] theorem State.assertReset_rxCount : s.assertReset.rxCount = 0 := rfl
@[simp] theorem State.assertReset_acc : s.assertReset.acc = [] := rfl
@[simp] theorem State.assertReset_cfgValid : s.assertReset.cfgValid = false := rfl
@[simp] theorem State.assertReset_cfgCells : s.assertReset.cfgCells = 0 := rfl
@[simp] theorem State.assertReset_cfgSensors : s.assertReset.cfgSensors = 0 := rfl
@[simp] theorem State.assertReset_cfgEnable : s.assertReset.cfgEnable = 0 := rfl
@[simp] theorem State.assertReset_rsmState : s.assertReset.rsmState = .idle := rfl
@[simp] theorem State.assertReset_rsmNext : s.assertReset.rsmNext = 0 := rfl
@[simp] theorem State.assertReset_rsmExpected : s.assertReset.rsmExpected = 0 := rfl
@[simp] theorem State.assertReset_rsmCmd : s.assertReset.rsmCmd = 0 := rfl
@[simp] theorem State.assertReset_inputs : s.assertReset.inputs = s.inputs := rfl
@[simp] theorem State.assertReset_rspValid : s.assertReset.rspValid = false := rfl
@[simp] theorem State.assertReset_rsp : s.assertReset.rsp = 0 := rfl

/-! ### `State.setInputs` -/

@[simp] theorem State.setInputs_tx (rest : List PortIn) : (s.setInputs rest).tx = s.tx := rfl
@[simp] theorem State.setInputs_txValid (rest : List PortIn) : (s.setInputs rest).txValid = s.txValid := rfl
@[simp] theorem State.setInputs_rx (rest : List PortIn) : (s.setInputs rest).rx = s.rx := rfl
@[simp] theorem State.setInputs_rxCount (rest : List PortIn) : (s.setInputs rest).rxCount = s.rxCount := rfl
@[simp] theorem State.setInputs_acc (rest : List PortIn) : (s.setInputs rest).acc = s.acc := rfl
@[simp] theorem State.setInputs_cfgValid (rest : List PortIn) : (s.setInputs rest).cfgValid = s.cfgValid := rfl
@[simp] theorem State.setInputs_cfgCells (rest : List PortIn) : (s.setInputs rest).cfgCells = s.cfgCells := rfl
@[simp] theorem State.setInputs_cfgSensors (rest : List PortIn) : (s.setInputs rest).cfgSensors = s.cfgSensors := rfl
@[simp] theorem State.setInputs_cfgEnable (rest : List PortIn) : (s.setInputs rest).cfgEnable = s.cfgEnable := rfl
@[simp] theorem State.setInputs_rsmState (rest : List PortIn) : (s.setInputs rest).rsmState = s.rsmState := rfl
@[simp] theorem State.setInputs_rsmNext (rest : List PortIn) : (s.setInputs rest).rsmNext = s.rsmNext := rfl
@[simp] theorem State.setInputs_rsmExpected (rest : List PortIn) : (s.setInputs rest).rsmExpected = s.rsmExpected := rfl
@[simp] theorem State.setInputs_rsmCmd (rest : List PortIn) : (s.setInputs rest).rsmCmd = s.rsmCmd := rfl
@[simp] theorem State.setInputs_inputs (rest : List PortIn) : (s.setInputs rest).inputs = rest := rfl
@[simp] theorem State.setInputs_rspValid (rest : List PortIn) : (s.setInputs rest).rspValid = s.rspValid := rfl
@[simp] theorem State.setInputs_rsp (rest : List PortIn) : (s.setInputs rest).rsp = s.rsp := rfl

/-! ### `State.answered` -/

@[simp] theorem State.answered_tx (w : Word) : (s.answered w).tx = s.tx := rfl
@[simp] theorem State.answered_txValid (w : Word) : (s.answered w).txValid = s.txValid := rfl
@[simp] theorem State.answered_rx (w : Word) : (s.answered w).rx = s.rx := rfl
@[simp] theorem State.answered_rxCount (w : Word) : (s.answered w).rxCount = s.rxCount := rfl
@[simp] theorem State.answered_acc (w : Word) : (s.answered w).acc = s.acc := rfl
@[simp] theorem State.answered_cfgValid (w : Word) : (s.answered w).cfgValid = s.cfgValid := rfl
@[simp] theorem State.answered_cfgCells (w : Word) : (s.answered w).cfgCells = s.cfgCells := rfl
@[simp] theorem State.answered_cfgSensors (w : Word) : (s.answered w).cfgSensors = s.cfgSensors := rfl
@[simp] theorem State.answered_cfgEnable (w : Word) : (s.answered w).cfgEnable = s.cfgEnable := rfl
@[simp] theorem State.answered_rsmState (w : Word) : (s.answered w).rsmState = s.rsmState := rfl
@[simp] theorem State.answered_rsmNext (w : Word) : (s.answered w).rsmNext = s.rsmNext := rfl
@[simp] theorem State.answered_rsmExpected (w : Word) : (s.answered w).rsmExpected = s.rsmExpected := rfl
@[simp] theorem State.answered_rsmCmd (w : Word) : (s.answered w).rsmCmd = s.rsmCmd := rfl
@[simp] theorem State.answered_inputs (w : Word) : (s.answered w).inputs = s.inputs := rfl
@[simp] theorem State.answered_rspValid (w : Word) : (s.answered w).rspValid = true := rfl
@[simp] theorem State.answered_rsp (w : Word) : (s.answered w).rsp = w := rfl

end Sys2Proof.Machine
end

