-- ==== Sys2Proof/Laws/Ops.lean ====
section
/-!
SUPPORT. One lemma per shared operation: what `respond` and `raise` put on the port, the checksum function, the verdict
on a packet, a pushed byte and the fetch of a sample.
-/

namespace Sys2Proof.Machine

variable (s : State)

/-! ### Responses -/

/-- `respond` changes the response port only. -/
theorem respond_eq (r : Response) :
    s.respond r = s.answered (packWord r.status r.r0 r.r1 r.r2 r.r3) := rfl

/-- `raise` changes the response port only. -/
theorem raise_eq (e : ErrorKind) : s.raise e = s.answered (packWord e.code 0#8 0#8 0#8 0#8) := rfl

theorem respond_empty : s.respond {} = s.answered 0x0000000000#40 := by
  rw [respond_eq, show packWord 0#8 0#8 0#8 0#8 0#8 = 0x0000000000#40 by decide]

theorem raise_usageError : s.raise .usageError = s.answered 0x0600000000#40 := by
  rw [raise_eq, show packWord (ErrorKind.code .usageError) 0#8 0#8 0#8 0#8 = 0x0600000000#40 by decide]

theorem raise_frameFormatError : s.raise .frameFormatError = s.answered 0x0200000000#40 := by
  rw [raise_eq,
    show packWord (ErrorKind.code .frameFormatError) 0#8 0#8 0#8 0#8 = 0x0200000000#40 by decide]

theorem raise_sequenceError : s.raise .sequenceError = s.answered 0x0400000000#40 := by
  rw [raise_eq,
    show packWord (ErrorKind.code .sequenceError) 0#8 0#8 0#8 0#8 = 0x0400000000#40 by decide]

theorem raise_configurationError : s.raise .configurationError = s.answered 0x0500000000#40 := by
  rw [raise_eq,
    show packWord (ErrorKind.code .configurationError) 0#8 0#8 0#8 0#8 = 0x0500000000#40 by decide]

/-- The status of a state whose response is a packed word. -/
theorem status_of_rsp {t : State} {st a b c d : Byte} (h : t.rsp = packWord st a b c d) :
    t.status = st := by
  rw [State.status, h]; exact fieldOp_packWord ..

/-- R0 of a state whose response is a packed word. -/
theorem r0_of_rsp {t : State} {st a b c d : Byte} (h : t.rsp = packWord st a b c d) : t.r0 = a := by
  rw [State.r0, h]; exact fieldA_packWord ..

/-! ### The checksum function -/

theorem sum8_toNat (bytes : List Byte) : (sum8 bytes).toNat = (bytes.map BitVec.toNat).sum % 256 := by
  simp [sum8]

theorem sum8_cons (b : Byte) (bytes : List Byte) : sum8 (b :: bytes) = b + sum8 bytes := by
  apply BitVec.eq_of_toNat_eq
  rw [BitVec.toNat_add, sum8_toNat, sum8_toNat]
  simp

/-- The sum over a range of indices, one term replaced. -/
theorem sum_range_replace (f : Nat → Nat) (n i v : Nat) (h : i < n) :
    ((List.range n).map fun k => if k = i then v else f k).sum + f i
      = ((List.range n).map f).sum + v := by
  induction n with
  | zero => omega
  | succ n ih =>
    simp only [List.range_succ, List.map_append, List.sum_append, List.map_cons, List.map_nil,
      List.sum_cons, List.sum_nil]
    by_cases hi : i = n
    · subst hi
      have : (List.range i).map (fun k => if k = i then v else f k) = (List.range i).map f :=
        List.map_congr_left fun k hk => if_neg (by simp at hk; omega)
      rw [this]
      simp
      omega
    · have := ih (by omega)
      rw [if_neg (fun h => hi h.symm)]
      omega

/-- The verdict on a packet, by numbers: the sum of offsets 0 to 11, reduced, against offset 12. -/
theorem respond_verdict (b : Buffer) (m : Memory) :
    s.respond (verdict b m) =
      (let sum := ((List.range 12).map fun k => (memRead b m k).toNat).sum
       s.answered (packWord 0x00#8
        (if sum % 256 = (memRead b m 12).toNat then 0x01#8 else 0x00#8)
        (BitVec.ofNat 8 sum) (memRead b m 12) 0x00#8)) := by
  have hs : sum8 (memReadList b m 0 12)
      = BitVec.ofNat 8 ((List.range 12).map fun k => (memRead b m k).toNat).sum := by
    apply BitVec.eq_of_toNat_eq
    rw [sum8_toNat, BitVec.toNat_ofNat]
    simp [memReadList, Function.comp_def]
  have hm : ∀ n : Nat, (if BitVec.ofNat 8 n = memRead b m 12 then 0x01#8 else 0x00#8)
      = (if n % 256 = (memRead b m 12).toNat then 0x01#8 else 0x00#8) := fun n =>
    if_congr (by rw [← BitVec.toNat_inj, BitVec.toNat_ofNat]) rfl rfl
  simp only [verdict, respond_eq, Config.pktSize_eq, Nat.add_one_sub_one, hs, hm]

/-! ### The receive buffer -/

theorem pushByte_room (v : Byte) (h : s.rxCount.toNat < 13) :
    pushByte v s = (s.storeRx s.rxCount.toNat v).setRxCount (s.rxCount + 1) := by
  exact if_pos h

theorem pushByte_full (v : Byte) (h : 13 ≤ s.rxCount.toNat) : pushByte v s = s.setRxCount 14 := by
  exact if_neg (Nat.not_lt.mpr h)

/-! ### The command port -/

theorem fetch_nil (h : s.inputs = []) : fetch s = (.quiet, s) := by
  simp [fetch, h]

theorem fetch_cons (p : PortIn) (rest : List PortIn) (h : s.inputs = p :: rest) :
    fetch s = (portEvent p, s.setInputs rest) := by
  simp [fetch, h]

theorem portEvent_rst (p : PortIn) (h : p.rst = true) : portEvent p = .reset := by
  simp [portEvent, h]

theorem portEvent_command (p : PortIn) (h : p.rst = false) (hv : p.cmdValid = true) :
    portEvent p = .command p.cmd := by
  simp [portEvent, cmdReady, h, hv]

theorem portEvent_quiet (p : PortIn) (h : p.rst = false) (hv : p.cmdValid = false) :
    portEvent p = .quiet := by
  simp [portEvent, h, hv]

/-- All a fetch can do: leave the state with quiet ports, or drop the oldest sample. -/
theorem fetch_cases : (s.inputs = [] ∧ fetch s = (.quiet, s))
    ∨ ∃ p rest, s.inputs = p :: rest ∧ fetch s = (portEvent p, s.setInputs rest) := by
  cases h : s.inputs with
  | nil => exact .inl ⟨rfl, fetch_nil s h⟩
  | cons p rest => exact .inr ⟨p, rest, rfl, fetch_cons s p rest h⟩

end Sys2Proof.Machine
end

