-- ==== Sys2Proof/Laws/Framer.lean ====
section
/-!
SUPPORT. The request packet and what `PKT.ENCODE` leaves in `TXBUF` (41_packet_framer R120).
-/

namespace Sys2Proof.Machine

/-- The thirteen bytes, written out (30_encoding R70). -/
theorem requestPacket_eq (a b : Byte) : requestPacket a b =
    [0xA5#8, a, b, 0x08#8, 0#8, 0#8, 0#8, 0#8, 0#8, 0#8, 0#8, 0#8, requestChecksum a b] := rfl

@[simp] theorem requestPacket_length (a b : Byte) : (requestPacket a b).length = 13 := rfl

theorem requestChecksum_toNat (a b : Byte) :
    (requestChecksum a b).toNat = (0xA5 + a.toNat + b.toNat + 8) % 256 := by
  simp [requestChecksum, sum8_toNat, Nat.add_assoc]

/-- A loaded buffer holds the packet from index 0. -/
theorem loadTx_byte (s : State) (packet : List Byte) (k : Nat) (v : Byte) (h : packet[k]? = some v) :
    (s.loadTx packet).txByte k = v := by
  have := memRead_memWriteList_inside .tx s.tx 0 packet k v h
  rwa [Nat.zero_add] at this

/-- Loading leaves every index beyond the packet alone. -/
theorem loadTx_byte_outside (s : State) (packet : List Byte) (k : Nat) (h : packet.length ≤ k) :
    (s.loadTx packet).txByte k = s.txByte k :=
  memRead_memWriteList_outside .tx s.tx 0 packet k (.inr (by omega))

/-- The payload bytes of a request are zero (41_packet_framer R128). -/
theorem requestPacket_payload (a b : Byte) (k : Nat) (h : 4 ≤ k) (h' : k ≤ 11) :
    (requestPacket a b)[k]? = some 0x00#8 := by
  rw [requestPacket_eq]
  interval_cases k <;> rfl

end Sys2Proof.Machine
end

