-- ==== Sys2Proof/Laws/Operands.lean ====
section
/-!
SUPPORT. Bit fields by numbers: slices, concatenations, zero extension, and the two packed flag bytes.
-/

namespace Sys2Proof.Machine

theorem extract_toNat {n k m : Nat} (v : BitVec n) :
    (v.extractLsb' k m).toNat = v.toNat / 2 ^ k % 2 ^ m := by
  rw [BitVec.extractLsb'_toNat, Nat.shiftRight_eq_div_pow]

theorem append_toNat {n m : Nat} (x : BitVec n) (y : BitVec m) :
    (x ++ y).toNat = x.toNat * 2 ^ m + y.toNat := by
  rw [BitVec.toNat_append, ← Nat.shiftLeft_add_eq_or_of_lt y.isLt, Nat.shiftLeft_eq]

theorem zext8_eq {n : Nat} (v : BitVec n) : zext8 v = BitVec.ofNat 8 v.toNat := by
  apply BitVec.eq_of_toNat_eq
  simp [zext8]

theorem enableSet_eq (enableLow enableHigh : Byte) :
    enableSet enableLow enableHigh = BitVec.ofNat 9 (256 * (enableHigh.toNat % 2) + enableLow.toNat) := by
  apply BitVec.eq_of_toNat_eq
  show (enableHigh.extractLsb' 0 1 ++ enableLow).toNat = _
  rw [append_byte_toNat, extract_toNat, BitVec.toNat_ofNat]
  have := enableLow.isLt
  omega

/-- `D[7:1]` is zero exactly when D is 0 or 1. -/
theorem undefinedEnableBits_eq_zero_iff (enableHigh : Byte) :
    undefinedEnableBits enableHigh = 0#7 ↔ enableHigh.toNat < 2 := by
  rw [← BitVec.toNat_inj, undefinedEnableBits, extract_toNat]
  have := enableHigh.isLt
  simp
  omega

theorem lookupFlags_eq (multi enabled : Bool) : lookupFlags multi enabled
    = BitVec.ofNat 8 ((if multi then 2 else 0) + (if enabled then 1 else 0)) := by
  cases multi <;> cases enabled <;> decide

theorem configFlags_eq (valid enable8 : Bool) : configFlags valid enable8
    = BitVec.ofNat 8 ((if valid then 128 else 0) + (if enable8 then 1 else 0)) := by
  cases valid <;> cases enable8 <;> decide

/-- The enabled flag of a group is bit `g` of the enable set. -/
theorem enabled_eq (s : State) (g : TelemetryGroup) :
    (if s.enabled g then 1 else 0) = s.cfgEnable.toNat / 2 ^ groupId g % 2 := by
  simp only [State.enabled, BitVec.getLsbD, Nat.testBit_eq_decide_div_mod_eq]
  have : s.cfgEnable.toNat / 2 ^ groupId g % 2 < 2 := Nat.mod_lt _ (by decide)
  simp only [decide_eq_true_eq]
  split <;> omega

/-- An id below 9 names the group whose id it is, and no other id names one. -/
theorem groupOfId_groupId (g : TelemetryGroup) : groupOfId (BitVec.ofNat 8 (groupId g)) = some g := by
  cases g <;> rfl

theorem groupOfId_eq_none (id : Byte) (h : 9 ≤ id.toNat) : groupOfId id = none := by
  unfold groupOfId
  split <;> simp_all

theorem groupId_of_groupOfId {id : Byte} {g : TelemetryGroup} (h : groupOfId id = some g) :
    id.toNat = groupId g := by
  unfold groupOfId at h
  split at h <;> cases h <;> rfl

end Sys2Proof.Machine
end

