-- ==== Sys2Proof/Laws/PerInstr.lean ====
section
/-!
SUPPORT. One lemma an operation about its encoding: the `op` byte of its command word is the one of the operation map
(30_encoding R73), and the word has no bit outside the fields the operation uses (R75, R78).
-/

namespace Sys2Proof

/-- AND of two words, byte by byte. -/
theorem packWord_and (o a b c d o' a' b' c' d' : Byte) :
    packWord o a b c d &&& packWord o' a' b' c' d'
      = packWord (o &&& o') (a &&& a') (b &&& b') (c &&& c') (d &&& d') := by
  rw [← packWord_fields (packWord o a b c d &&& packWord o' a' b' c' d')]
  have field : ∀ (start : Nat) (w w' : Word),
      (w &&& w').extractLsb' start 8 = w.extractLsb' start 8 &&& w'.extractLsb' start 8 :=
    fun _ _ _ => BitVec.extractLsb'_and ..
  have h1 : ∀ w w' : Word, fieldOp (w &&& w') = fieldOp w &&& fieldOp w' := field 32
  have h2 : ∀ w w' : Word, fieldA (w &&& w') = fieldA w &&& fieldA w' := field 24
  have h3 : ∀ w w' : Word, fieldB (w &&& w') = fieldB w &&& fieldB w' := field 16
  have h4 : ∀ w w' : Word, fieldC (w &&& w') = fieldC w &&& fieldC w' := field 8
  have h5 : ∀ w w' : Word, fieldD (w &&& w') = fieldD w &&& fieldD w' := field 0
  simp [h1, h2, h3, h4, h5]

@[simp] theorem and_byte_ones (a : Byte) : a &&& 0xFF#8 = a := BitVec.and_allOnes

theorem mask_op : 0xFF00000000#40 = packWord 0xFF#8 0#8 0#8 0#8 0#8 := by decide
theorem mask_opA : 0xFFFF000000#40 = packWord 0xFF#8 0xFF#8 0#8 0#8 0#8 := by decide
theorem mask_opAB : 0xFFFFFF0000#40 = packWord 0xFF#8 0xFF#8 0xFF#8 0#8 0#8 := by decide
theorem mask_all : 0xFFFFFFFFFF#40 = packWord 0xFF#8 0xFF#8 0xFF#8 0xFF#8 0xFF#8 := by decide

/-- What the lemmas below say of one instruction. -/
def Laws.Encoding.Statement (i : Instr) : Prop :=
  fieldOp (encode i) = opcode i ∧ encode i &&& usedBits i = encode i

theorem Laws.Encoding.sysNop : Laws.Encoding.Statement .sysNop :=
  ⟨fieldOp_packWord .., by decide⟩

theorem Laws.Encoding.sysReset : Laws.Encoding.Statement .sysReset :=
  ⟨fieldOp_packWord .., by decide⟩

theorem Laws.Encoding.cksCompute (a b c d : Byte) : Laws.Encoding.Statement (.cksCompute a b c d) :=
  ⟨fieldOp_packWord .., by simp [encode, usedBits, mask_all, packWord_and]⟩

theorem Laws.Encoding.cksVerify (a : Byte) : Laws.Encoding.Statement (.cksVerify a) :=
  ⟨fieldOp_packWord .., by simp [encode, usedBits, mask_opA, packWord_and]⟩

theorem Laws.Encoding.pktEncode (a b : Byte) : Laws.Encoding.Statement (.pktEncode a b) :=
  ⟨fieldOp_packWord .., by simp [encode, usedBits, mask_opAB, packWord_and]⟩

theorem Laws.Encoding.txRead (a : Byte) : Laws.Encoding.Statement (.txRead a) :=
  ⟨fieldOp_packWord .., by simp [encode, usedBits, mask_opA, packWord_and]⟩

theorem Laws.Encoding.rxClear : Laws.Encoding.Statement .rxClear :=
  ⟨fieldOp_packWord .., by decide⟩

theorem Laws.Encoding.rxPush (a : Byte) : Laws.Encoding.Statement (.rxPush a) :=
  ⟨fieldOp_packWord .., by simp [encode, usedBits, mask_opA, packWord_and]⟩

theorem Laws.Encoding.pktDecode : Laws.Encoding.Statement .pktDecode :=
  ⟨fieldOp_packWord .., by decide⟩

theorem Laws.Encoding.rxRead (a : Byte) : Laws.Encoding.Statement (.rxRead a) :=
  ⟨fieldOp_packWord .., by simp [encode, usedBits, mask_opA, packWord_and]⟩

theorem Laws.Encoding.rsmStart (a b : Byte) : Laws.Encoding.Statement (.rsmStart a b) :=
  ⟨fieldOp_packWord .., by simp [encode, usedBits, mask_opAB, packWord_and]⟩

theorem Laws.Encoding.rsmFeed : Laws.Encoding.Statement .rsmFeed :=
  ⟨fieldOp_packWord .., by decide⟩

theorem Laws.Encoding.rsmStatus : Laws.Encoding.Statement .rsmStatus :=
  ⟨fieldOp_packWord .., by decide⟩

theorem Laws.Encoding.accRead (a : Byte) : Laws.Encoding.Statement (.accRead a) :=
  ⟨fieldOp_packWord .., by simp [encode, usedBits, mask_opA, packWord_and]⟩

theorem Laws.Encoding.cfgSet (a b c d : Byte) : Laws.Encoding.Statement (.cfgSet a b c d) :=
  ⟨fieldOp_packWord .., by simp [encode, usedBits, mask_all, packWord_and]⟩

theorem Laws.Encoding.cfgRead : Laws.Encoding.Statement .cfgRead :=
  ⟨fieldOp_packWord .., by decide⟩

theorem Laws.Encoding.muxLookup (a : Byte) : Laws.Encoding.Statement (.muxLookup a) :=
  ⟨fieldOp_packWord .., by simp [encode, usedBits, mask_opA, packWord_and]⟩

end Sys2Proof
end

