-- ==== Sys2Proof/Laws/Reassembler.lean ====
section
/-!
SUPPORT. What accepting a frame does, and all a feed can do (42_frame_reassembler R152).
-/

namespace Sys2Proof.Machine

variable (s : State)

/-- Accepting a frame writes seven bytes of `ACC`, `rsm_next` and, on the last frame, `rsm_state`. -/
theorem acceptFrame_eq : acceptFrame s = { s with
    acc := memWriteList s.acc s.frameBase s.frameBytes
    rsmNext := s.rsmNext + 1
    rsmState := if s.rsmNext + 1 = s.rsmExpected then .complete else s.rsmState } := by
  by_cases h : s.rsmNext + 1 = s.rsmExpected
  · rw [if_pos h]; exact if_pos h
  · rw [if_neg h]; exact if_neg h

@[simp] theorem frameBytes_length : s.frameBytes.length = 7 := by
  simp [State.frameBytes]

theorem frameBytes_getElem? (j : Nat) (h : j < 7) : s.frameBytes[j]? = some (s.rxByte (5 + j)) :=
  memReadList_getElem? .rx s.rx 5 7 j h

theorem frameBase_eq : s.frameBase = 7 * s.rsmNext.toNat := by
  simp [State.frameBase, Nat.mul_comm]

theorem rsmNext_succ_toNat (h : s.rsmNext.toNat < 31) :
    (s.rsmNext + 1).toNat = s.rsmNext.toNat + 1 := by
  rw [BitVec.toNat_add]
  simp
  omega

/-- The index test by numbers: not the sentinel, and equal to `rsm_next` (42_frame_reassembler R153). -/
theorem indexExpected_iff : s.indexExpected = true ↔
    s.rxByte 4 ≠ 0xFF#8 ∧ (s.rxByte 4).toNat = s.rsmNext.toNat := by
  have hz : (zext8 s.rsmNext).toNat = s.rsmNext.toNat := by
    simp [zext8]
    omega
  simp only [State.indexExpected, State.frameIndex, Config.seqSentinel_eq, Bool.and_eq_true,
    bne_iff_ne, beq_iff_eq, ← BitVec.toNat_inj, ne_eq, hz]

/-- All a feed that answers a next state can have done: an error with no other effect (`SequenceError` only in `FAILED`),
a rejection, or the acceptance of the expected frame. -/
theorem execRsmFeed_cases {t : State} (h : execRsmFeed s = .next t) :
    (∃ e, (e = .frameFormatError ∨ e = .usageError ∨ (e = .sequenceError ∧ s.rsmState = .failed))
        ∧ t = s.raise e)
      ∨ (s.rxCount.toNat = 13 ∧ (s.rsmState = .await ∨ s.rsmState = .complete)
          ∧ t = (s.setRsmState .failed).raise .sequenceError)
      ∨ (s.rxCount.toNat = 13 ∧ s.rsmState = .await ∧ s.indexExpected = true ∧ s.rsmNext.toNat < 16
          ∧ t = (acceptFrame s).respond (acceptFrame s).sessionResponse) := by
  unfold execRsmFeed at h
  split at h
  · exact .inl ⟨_, .inl rfl, (Host.Outcome.next.inj h).symm⟩
  · rename_i hc
    rw [not_not, Config.pktSize_eq] at hc
    split at h
    · exact .inl ⟨_, .inr (.inl rfl), (Host.Outcome.next.inj h).symm⟩
    · rename_i hs
      exact .inl ⟨_, .inr (.inr ⟨rfl, hs⟩), (Host.Outcome.next.inj h).symm⟩
    · rename_i hs
      exact .inr (.inl ⟨hc, .inr hs, (Host.Outcome.next.inj h).symm⟩)
    · rename_i hs
      split at h
      · exact .inr (.inl ⟨hc, .inl hs, (Host.Outcome.next.inj h).symm⟩)
      · rename_i hi
        split at h
        · cases h
        · rename_i hb
          refine .inr (.inr ⟨hc, hs, by simpa using hi, ?_, (Host.Outcome.next.inj h).symm⟩)
          rw [frameBase_eq, Config.accSize_eq, Config.frameData_eq] at hb
          omega

/-- The acceptance of the expected frame, where its place is inside `ACC`. -/
theorem execRsmFeed_accept (hc : s.rxCount.toNat = 13) (hs : s.rsmState = .await)
    (hi : s.indexExpected = true) (hn : s.rsmNext.toNat < 16) :
    execRsmFeed s = .next ((acceptFrame s).respond (acceptFrame s).sessionResponse) := by
  have hb : ¬Config.accSize < s.frameBase + Config.frameData := by
    rw [frameBase_eq, Config.accSize_eq, Config.frameData_eq]
    omega
  simp only [execRsmFeed, Config.pktSize_eq, hc, ne_eq, not_true_eq_false, if_false, hs, hi,
    Bool.not_true, Bool.false_eq_true, if_neg hb]

/-- The response of an acceptance: the new session registers. -/
theorem respond_accept (hs : s.rsmState = .await) (hn : s.rsmNext.toNat < 16) :
    (acceptFrame s).respond (acceptFrame s).sessionResponse =
      State.answered (acceptFrame s) (packWord 0x00#8
        (if s.rsmNext.toNat + 1 = s.rsmExpected.toNat then 0x02#8 else 0x01#8)
        (BitVec.ofNat 8 (s.rsmNext.toNat + 1)) (BitVec.ofNat 8 s.rsmExpected.toNat) s.rsmCmd) := by
  have he : (s.rsmNext + 1 = s.rsmExpected) ↔ s.rsmNext.toNat + 1 = s.rsmExpected.toNat := by
    rw [← BitVec.toNat_inj, rsmNext_succ_toNat s (by omega)]
  rw [respond_eq]
  simp only [State.sessionResponse, acceptFrame_eq, zext8_eq, rsmNext_succ_toNat s (by omega : _ < 31), hs, he]
  split <;> rfl

end Sys2Proof.Machine
end

