-- ==== Sys2Proof/Laws/Step.lean ====
section
/-!
SUPPORT. What a step can do, said once: nothing, a reset, the execution of one decoded instruction, or the rejection of
one word. Invariants of the machine are proved from `step_cases`, one case an instruction.
-/

namespace Sys2Proof.Machine

/-- If a step answers `t`, it did one of four things to the state without its oldest sample. -/
theorem step_cases {s t : State} (h : step s = .next t) :
    (∃ rest, t = s.setInputs rest)
      ∨ (∃ p rest, s.inputs = p :: rest ∧ p.rst = true ∧ t = (s.setInputs rest).assertReset)
      ∨ (∃ p rest i, s.inputs = p :: rest ∧ p.rst = false ∧ p.cmdValid = true ∧ decode p.cmd = .ok i
          ∧ exec i (s.setInputs rest) = .next t)
      ∨ (∃ p rest, s.inputs = p :: rest ∧ p.rst = false ∧ p.cmdValid = true
          ∧ t = (s.setInputs rest).raise .usageError) := by
  rcases fetch_cases s with ⟨hi, hf⟩ | ⟨p, rest, hi, hf⟩
  · simp only [step, hf, Host.Outcome.next.injEq] at h
    exact .inl ⟨s.inputs, h.symm⟩
  · by_cases hr : p.rst = true
    · simp only [step, hf, portEvent_rst p hr, Host.Outcome.next.injEq] at h
      exact .inr (.inl ⟨p, rest, hi, hr, h.symm⟩)
    · rw [Bool.not_eq_true] at hr
      by_cases hv : p.cmdValid = true
      · simp only [step, hf, portEvent_command p hr hv] at h
        split at h
        · rename_i i hd
          exact .inr (.inr (.inl ⟨p, rest, i, hi, hr, hv, hd, h⟩))
        · rename_i e _
          obtain ⟨op⟩ := e
          simp only [rejectWord, Host.Outcome.next.injEq] at h
          exact .inr (.inr (.inr ⟨p, rest, hi, hr, hv, h.symm⟩))
      · rw [Bool.not_eq_true] at hv
        simp only [step, hf, portEvent_quiet p hr hv, Host.Outcome.next.injEq] at h
        exact .inl ⟨rest, h.symm⟩

/-- A step that does not execute an instruction answers a next state. -/
theorem step_next_or_exec (s : State) :
    (∃ t, step s = .next t)
      ∨ ∃ p rest i, s.inputs = p :: rest ∧ p.rst = false ∧ p.cmdValid = true ∧ decode p.cmd = .ok i
          ∧ step s = exec i (s.setInputs rest) := by
  rcases fetch_cases s with ⟨hi, hf⟩ | ⟨p, rest, hi, hf⟩
  · exact .inl ⟨s, by simp [step, hf]⟩
  · by_cases hr : p.rst = true
    · exact .inl ⟨_, by simp only [step, hf, portEvent_rst p hr]; rfl⟩
    · rw [Bool.not_eq_true] at hr
      by_cases hv : p.cmdValid = true
      · cases hd : decode p.cmd with
        | ok i =>
          exact .inr ⟨p, rest, i, hi, hr, hv, hd,
            by simp only [step, hf, portEvent_command p hr hv, hd]⟩
        | error e =>
          exact .inl ⟨rejectWord e (s.setInputs rest),
            by simp only [step, hf, portEvent_command p hr hv, hd]⟩
      · rw [Bool.not_eq_true] at hv
        exact .inl ⟨s.setInputs rest, by simp only [step, hf, portEvent_quiet p hr hv]⟩

/-- Every instruction but `RSM.FEED` answers a next state in every state. -/
theorem exec_next_of_ne_feed (i : Instr) (s : State) (h : i ≠ .rsmFeed) :
    ∃ t, exec i s = .next t := by
  cases i with
  | rsmFeed => exact absurd rfl h
  | sysNop => exact ⟨_, rfl⟩
  | sysReset => exact ⟨_, rfl⟩
  | cksCompute a b c d => exact ⟨_, rfl⟩
  | cksVerify a =>
    simp only [exec, execCksVerify]
    repeat' split
    all_goals exact ⟨_, rfl⟩
  | pktEncode a b => exact ⟨_, rfl⟩
  | txRead a => simp only [exec, execTxRead]; split <;> exact ⟨_, rfl⟩
  | rxClear => exact ⟨_, rfl⟩
  | rxPush a => exact ⟨_, rfl⟩
  | pktDecode => simp only [exec, execPktDecode]; split <;> exact ⟨_, rfl⟩
  | rxRead a => simp only [exec, execRxRead]; split <;> exact ⟨_, rfl⟩
  | rsmStart a b => simp only [exec, execRsmStart]; split <;> exact ⟨_, rfl⟩
  | rsmStatus => exact ⟨_, rfl⟩
  | accRead a => simp only [exec, execAccRead]; split <;> exact ⟨_, rfl⟩
  | cfgSet a b c d =>
    simp only [exec, execCfgSet]
    repeat' split
    all_goals exact ⟨_, rfl⟩
  | cfgRead => exact ⟨_, rfl⟩
  | muxLookup a =>
    simp only [exec, execMuxLookup]
    repeat' split
    all_goals exact ⟨_, rfl⟩

/-- What one instruction can answer: a response of status `OK`, an error on the state as it was (`SequenceError` only
from a feed in `FAILED`), or the one error with an effect, a feed that fails the exchange (60_exceptions R218). -/
theorem exec_cases (i : Instr) (s t : State) (h : exec i s = .next t) :
    (∃ u r, t = State.respond u r ∧ r.status = 0#8)
      ∨ (∃ e, (e = .frameFormatError ∨ e = .usageError ∨ e = .configurationError
            ∨ (e = .sequenceError ∧ i = .rsmFeed ∧ s.rsmState = .failed)) ∧ t = s.raise e)
      ∨ (i = .rsmFeed ∧ (s.rsmState = .await ∨ s.rsmState = .complete)
          ∧ t = (s.setRsmState .failed).raise .sequenceError) := by
  cases i with
  | rsmFeed =>
    rcases execRsmFeed_cases s h with ⟨e, he, ht⟩ | ⟨_, hs, ht⟩ | ⟨_, _, _, _, ht⟩
    · exact .inr (.inl ⟨e, by tauto, ht⟩)
    · exact .inr (.inr ⟨rfl, hs, ht⟩)
    · exact .inl ⟨_, _, ht, rfl⟩
  | sysNop => exact .inl ⟨_, _, (Host.Outcome.next.inj h).symm, rfl⟩
  | sysReset => exact .inl ⟨_, _, (Host.Outcome.next.inj h).symm, rfl⟩
  | cksCompute a b c d => exact .inl ⟨_, _, (Host.Outcome.next.inj h).symm, rfl⟩
  | cksVerify a =>
    simp only [exec, execCksVerify] at h
    repeat' split at h
    all_goals first
      | exact .inl ⟨_, _, (Host.Outcome.next.inj h).symm, rfl⟩
      | exact .inr (.inl ⟨_, by simp, (Host.Outcome.next.inj h).symm⟩)
  | pktEncode a b => exact .inl ⟨_, _, (Host.Outcome.next.inj h).symm, rfl⟩
  | txRead a =>
    simp only [exec, execTxRead] at h
    split at h
    all_goals first
      | exact .inl ⟨_, _, (Host.Outcome.next.inj h).symm, rfl⟩
      | exact .inr (.inl ⟨_, by simp, (Host.Outcome.next.inj h).symm⟩)
  | rxClear => exact .inl ⟨_, _, (Host.Outcome.next.inj h).symm, rfl⟩
  | rxPush a => exact .inl ⟨_, _, (Host.Outcome.next.inj h).symm, rfl⟩
  | pktDecode =>
    simp only [exec, execPktDecode] at h
    split at h
    all_goals first
      | exact .inl ⟨_, _, (Host.Outcome.next.inj h).symm, rfl⟩
      | exact .inr (.inl ⟨_, by simp, (Host.Outcome.next.inj h).symm⟩)
  | rxRead a =>
    simp only [exec, execRxRead] at h
    split at h
    all_goals first
      | exact .inl ⟨_, _, (Host.Outcome.next.inj h).symm, rfl⟩
      | exact .inr (.inl ⟨_, by simp, (Host.Outcome.next.inj h).symm⟩)
  | rsmStart a b =>
    simp only [exec, execRsmStart] at h
    split at h
    all_goals first
      | exact .inl ⟨_, _, (Host.Outcome.next.inj h).symm, rfl⟩
      | exact .inr (.inl ⟨_, by simp, (Host.Outcome.next.inj h).symm⟩)
  | rsmStatus => exact .inl ⟨_, _, (Host.Outcome.next.inj h).symm, rfl⟩
  | accRead a =>
    simp only [exec, execAccRead] at h
    split at h
    all_goals first
      | exact .inl ⟨_, _, (Host.Outcome.next.inj h).symm, rfl⟩
      | exact .inr (.inl ⟨_, by simp, (Host.Outcome.next.inj h).symm⟩)
  | cfgSet a b c d =>
    simp only [exec, execCfgSet] at h
    repeat' split at h
    all_goals first
      | exact .inl ⟨_, _, (Host.Outcome.next.inj h).symm, rfl⟩
      | exact .inr (.inl ⟨_, by simp, (Host.Outcome.next.inj h).symm⟩)
  | cfgRead => exact .inl ⟨_, _, (Host.Outcome.next.inj h).symm, rfl⟩
  | muxLookup a =>
    simp only [exec, execMuxLookup] at h
    repeat' split at h
    all_goals first
      | exact .inl ⟨_, _, (Host.Outcome.next.inj h).symm, rfl⟩
      | exact .inr (.inl ⟨_, by simp, (Host.Outcome.next.inj h).symm⟩)

end Sys2Proof.Machine
end

