-- ==== Sys2Proof/Tests/Slice0.lean ====
section
/-!
SUPPORT. Tests of one step on a small state, and for every statement that has hypotheses a theorem that meets them.
Command words, responses and packets are those of 95_test_vectors, or are assembled by hand from 30_encoding R71 and
R73; none was computed by the model.
-/

namespace Sys2Proof.Tests

open Sys2Proof.Machine

/-! ### Helpers -/

/-- The response word of an outcome that is a next state. -/
def answer : Host.Outcome State Fault Refusal → Option Word
  | .next t => some t.rsp
  | .fault _ => none
  | .refused _ => none

/-- A field of an outcome that is a next state. -/
def after {α : Type} (f : State → α) : Host.Outcome State Fault Refusal → Option α
  | .next t => some (f t)
  | .fault _ => none
  | .refused _ => none

/-- The cells of a list of bytes from index 0. -/
def cells (bytes : List Byte) : Memory := (List.range bytes.length).zip bytes

/-- The reset state with bytes in `RXBUF` and a byte count. -/
def received (bytes : List Byte) (n : BitVec 4) : State :=
  { State.reset with rx := cells bytes, rxCount := n }

/-- A reassembler session. -/
def session (st : RsmState) (next expected : BitVec 5) (command : Byte) (s : State) : State :=
  { s with rsmState := st, rsmNext := next, rsmExpected := expected, rsmCmd := command }

/-- A configuration. -/
def configured (cellCount : BitVec 6) (sensors : BitVec 5) (enable : BitVec 9) : State :=
  { State.reset with cfgValid := true, cfgCells := cellCount, cfgSensors := sensors, cfgEnable := enable }

/-- One sample on the input ports. -/
def driving (p : PortIn) (s : State) : State := { s with inputs := [p] }

/-- The response packet of 95_test_vectors section 2.2, first row. -/
def goodPacket : List Byte :=
  [0xA5, 0x01, 0x90, 0x08, 0x02, 0x0C, 0x00, 0x00, 0x75, 0x30, 0x03, 0xE8, 0xDC]

/-- The request after `PKT.ENCODE 0x40, 0x95` (95_test_vectors section 2.4). -/
def request : List Byte :=
  [0xA5, 0x40, 0x95, 0x08, 0x00, 0x00, 0x00, 0x00, 0x00, 0x00, 0x00, 0x00, 0x82]

/-- Frame F0 of 95_test_vectors section 2.6. -/
def frame0 : List Byte :=
  [0xA5, 0x01, 0x95, 0x08, 0x00, 0x0C, 0xE4, 0x0C, 0xE5, 0x0C, 0xE6, 0x00, 0x16]

/-- Frame F1. -/
def frame1 : List Byte :=
  [0xA5, 0x01, 0x95, 0x08, 0x01, 0x0C, 0xE7, 0x0C, 0xE8, 0x0C, 0xE9, 0x00, 0x20]

/-- Frame F2. -/
def frame2 : List Byte :=
  [0xA5, 0x01, 0x95, 0x08, 0x02, 0x0C, 0xEA, 0x00, 0x00, 0x00, 0x00, 0x00, 0x3B]

/-- Frame GS: the sentinel index. -/
def frameSentinel : List Byte :=
  [0xA5, 0x01, 0x96, 0x08, 0xFF, 0x00, 0x00, 0x00, 0x00, 0x00, 0x00, 0x00, 0x43]

/-- A frame with a chosen index byte. -/
def frameAt (k : Byte) : List Byte :=
  [0xA5, 0x01, 0x95, 0x08, k, 0x01, 0x02, 0x03, 0x04, 0x05, 0x06, 0x07, 0x00]

/-- The bytes F0 to F2 reassemble to. -/
def threeFrames : List Byte :=
  frame0.extract 5 12 ++ frame1.extract 5 12 ++ frame2.extract 5 12

/-- A block in use: configured, a request built, a packet received and an exchange of three frames complete. -/
def busy : State :=
  session .complete 3 3 0x95
    { configured 7 2 0x1FF with
      tx := cells request, txValid := true, rx := cells frame2, rxCount := 13, acc := cells threeFrames }

/-- The same block with the exchange open at frame 2. -/
def halfway : State :=
  { session .await 2 3 0x95 busy with acc := cells (threeFrames.take 14) }

/-! ### Well-formedness refuses each operand out of range (30_encoding R73) -/

theorem test_wellFormed_select :
    (Instr.cksVerify 1).wellFormed = true ∧ (Instr.cksVerify 2).wellFormed = false := by decide
theorem test_wellFormed_txIndex :
    (Instr.txRead 12).wellFormed = true ∧ (Instr.txRead 13).wellFormed = false := by decide
theorem test_wellFormed_rxIndex :
    (Instr.rxRead 12).wellFormed = true ∧ (Instr.rxRead 13).wellFormed = false := by decide
theorem test_wellFormed_count :
    (Instr.rsmStart 16 0).wellFormed = true ∧ (Instr.rsmStart 17 0).wellFormed = false := by decide
theorem test_wellFormed_offset :
    (Instr.accRead 111).wellFormed = true ∧ (Instr.accRead 112).wellFormed = false := by decide
theorem test_wellFormed_config :
    (Instr.cfgSet 48 16 0xFF 1).wellFormed = true ∧ (Instr.cfgSet 49 16 0xFF 1).wellFormed = false
      ∧ (Instr.cfgSet 48 17 0xFF 1).wellFormed = false
      ∧ (Instr.cfgSet 48 16 0xFF 2).wellFormed = false := by decide
theorem test_wellFormed_group :
    (Instr.muxLookup 8).wellFormed = true ∧ (Instr.muxLookup 9).wellFormed = false := by decide

/-! ### Decoding: one word a constructor, the op byte and then A, B, C, D as 30_encoding R71 and R73 place them -/

theorem test_decode_sysNop : decodeTableWord 40 0x00FFFFFFFF = some .sysNop := by decide
theorem test_decode_sysReset : decodeTableWord 40 0x0100000000 = some .sysReset := by decide
theorem test_decode_cksCompute :
    decodeTableWord 40 0x1012345678 = some (.cksCompute 0x12 0x34 0x56 0x78) := by decide
theorem test_decode_cksVerify : decodeTableWord 40 0x1101000000 = some (.cksVerify 1) := by decide
theorem test_decode_pktEncode :
    decodeTableWord 40 0x204090FFFF = some (.pktEncode 0x40 0x90) := by decide
theorem test_decode_txRead : decodeTableWord 40 0x210C000000 = some (.txRead 12) := by decide
theorem test_decode_rxClear : decodeTableWord 40 0x2200000000 = some .rxClear := by decide
theorem test_decode_rxPush : decodeTableWord 40 0x23A5000000 = some (.rxPush 0xA5) := by decide
theorem test_decode_pktDecode : decodeTableWord 40 0x2400000000 = some .pktDecode := by decide
theorem test_decode_rxRead : decodeTableWord 40 0x250B000000 = some (.rxRead 11) := by decide
theorem test_decode_rsmStart :
    decodeTableWord 40 0x3003950000 = some (.rsmStart 3 0x95) := by decide
theorem test_decode_rsmFeed : decodeTableWord 40 0x3100000000 = some .rsmFeed := by decide
theorem test_decode_rsmStatus : decodeTableWord 40 0x3200000000 = some .rsmStatus := by decide
theorem test_decode_accRead : decodeTableWord 40 0x3306000000 = some (.accRead 6) := by decide
theorem test_decode_cfgSet :
    decodeTableWord 40 0x400702FF01 = some (.cfgSet 7 2 0xFF 1) := by decide
theorem test_decode_cfgRead : decodeTableWord 40 0x4100000000 = some .cfgRead := by decide
theorem test_decode_muxLookup : decodeTableWord 40 0x4205000000 = some (.muxLookup 5) := by decide

/-- The ends of the five unassigned ranges of 30_encoding R76 are refused by name. -/
theorem test_decode_unassigned :
    decode 0x0200000000 = .error (.unassignedOpcode 0x02)
      ∧ decode 0x1F00000000 = .error (.unassignedOpcode 0x1F)
      ∧ decode 0x2600000000 = .error (.unassignedOpcode 0x26)
      ∧ decode 0x3400000000 = .error (.unassignedOpcode 0x34)
      ∧ decode 0xFF12345678 = .error (.unassignedOpcode 0xFF) := by decide

/-- The encoder gives the words of 30_encoding R78. -/
theorem test_encode :
    encode (.cksCompute 0xA5 0x40 0x90 0x08) = 0x10A5409008 ∧ encode .rxClear = 0x2200000000
      ∧ encode (.cfgSet 7 2 0xFF 1) = 0x400702FF01 := by decide

/-! ### Steps -/

/-- A placed word is the first instruction after reset (95_test_vectors section 2.1). -/
theorem test_step_withFetchWord :
    answer (step (State.reset.withFetchWord 40 0x10A5409008)) = some 0x007D000000 := by decide

/-- An unassigned opcode (95_test_vectors section 2.8). -/
theorem test_step_unassigned :
    answer (step (State.reset.withFetchWord 40 0x7F00000000)) = some 0x0600000000 := by decide

/-- `rst` while a word is presented: no response, and the registers of the reset state (70_reset_and_hazards R240). -/
theorem test_step_rst : step (driving ⟨true, true, 0x2040900000⟩ busy) = .next State.reset := rfl

theorem test_sysNop : answer (exec .sysNop busy) = some 0x0000000000 := by decide

theorem test_sysReset : exec .sysReset busy = .next { State.reset with rspValid := true } := rfl

/-- 512 wraps to 0; 1020 wraps to 0xFC (95_test_vectors section 2.1). -/
theorem test_cksCompute_wraps :
    answer (exec (.cksCompute 0x01 0xFF 0xFF 0x01) .reset) = some 0x0000000000
      ∧ answer (exec (.cksCompute 0xFF 0xFF 0xFF 0xFF) .reset) = some 0x00FC000000 := by decide

/-- A match, and one payload byte changed (95_test_vectors section 2.2). -/
theorem test_cksVerify_received :
    answer (exec (.cksVerify 0) (received goodPacket 13)) = some 0x0001DCDC00
      ∧ answer (exec (.cksVerify 0) (received (goodPacket.set 5 0x0D) 13)) = some 0x0000DDDC00 := by
  decide

/-- Rows 4 and 5 of 95_test_vectors section 2.3: a comparison before the reduction, or a masked verdict, fails here. -/
theorem test_cksVerify_maskThenCompare :
    answer (exec (.cksVerify 0) (received [0xFF, 0x02, 0, 0, 0, 0, 0, 0, 0, 0, 0, 0, 0xFF] 13))
        = some 0x000001FF00
      ∧ answer (exec (.cksVerify 0) (received [0xFF, 0xFF, 0x01, 0, 0, 0, 0, 0, 0, 0, 0, 0, 0xFF] 13))
        = some 0x0001FFFF00 := by decide

/-- 95_test_vectors section 2.4. -/
theorem test_pktEncode :
    answer (exec (.pktEncode 0x40 0x95) .reset) = some 0x0082000000
      ∧ after State.tx (exec (.pktEncode 0x40 0x95) .reset) = some (cells request) := by decide

/-- A request that fills the buffer anew, with a checksum of zero (95_test_vectors section 2.4). -/
theorem test_pktEncode_replaces :
    after State.tx (exec (.pktEncode 0x01 0x52) busy)
      = some (cells [0xA5, 0x01, 0x52, 0x08, 0, 0, 0, 0, 0, 0, 0, 0, 0]) := by decide

/-- The last readable index, and the first beyond it. -/
theorem test_txRead :
    answer (exec (.txRead 12) busy) = some 0x0082000000
      ∧ answer (exec (.txRead 13) busy) = some 0x0600000000 := by decide

theorem test_rxClear :
    after State.rxCount (exec .rxClear busy) = some 0
      ∧ after State.rx (exec .rxClear busy) = some (cells frame2) := by decide

/-- Rows 21, 25 and 27 of 95_test_vectors section 2.5. -/
theorem test_rxPush :
    answer (exec (.rxPush 0xDC) (received (goodPacket.take 12) 12)) = some 0x000D000000
      ∧ answer (exec (.rxPush 0x55) (received goodPacket 13)) = some 0x000E000000
      ∧ answer (exec (.rxPush 0x66) (received goodPacket 14)) = some 0x000E000000 := by decide

/-- The thirteenth byte is stored, the fourteenth is not. -/
theorem test_rxPush_stores :
    after State.rx (exec (.rxPush 0xDC) (received (goodPacket.take 12) 12)) = some (cells goodPacket)
      ∧ after State.rx (exec (.rxPush 0x55) (received goodPacket 13)) = some (cells goodPacket) := by
  decide

/-- Rows 16 and 22 of 95_test_vectors section 2.5. -/
theorem test_pktDecode :
    answer (exec .pktDecode (received (goodPacket.take 12) 12)) = some 0x0200000000
      ∧ answer (exec .pktDecode (received goodPacket 13)) = some 0x00A5019008 := by decide

/-- Rows 19, 20, 28 and 29 of 95_test_vectors section 2.5. -/
theorem test_rxRead :
    answer (exec (.rxRead 11) (received (goodPacket.take 12) 12)) = some 0x00E8000000
      ∧ answer (exec (.rxRead 12) (received (goodPacket.take 12) 12)) = some 0x0600000000
      ∧ answer (exec (.rxRead 12) (received goodPacket 14)) = some 0x00DC000000
      ∧ answer (exec (.rxRead 13) (received goodPacket 14)) = some 0x0600000000 := by decide

/-- 95_test_vectors section 2.6, operand range. -/
theorem test_rsmStart :
    answer (exec (.rsmStart 0 0x95) .reset) = some 0x0002000095
      ∧ answer (exec (.rsmStart 16 0x95) .reset) = some 0x0001001095
      ∧ answer (exec (.rsmStart 17 0x95) .reset) = some 0x0500000000 := by decide

/-- The last frame of an exchange of three. -/
theorem test_rsmFeed_accepts :
    answer (exec .rsmFeed halfway) = some 0x0002030395
      ∧ after State.acc (exec .rsmFeed halfway) = some (cells threeFrames) := by decide

/-- The sentinel and a duplicate are rejected; a frame too many fails a completed exchange. -/
theorem test_rsmFeed_rejects :
    answer (exec .rsmFeed (session .await 0 2 0x96 (received frameSentinel 13))) = some 0x0400000000
      ∧ answer (exec .rsmFeed (session .await 1 2 0x96 (received (frameAt 0) 13))) = some 0x0400000000
      ∧ after State.rsmState (exec .rsmFeed busy) = some .failed := by decide

theorem test_rsmStatus :
    answer (exec .rsmStatus (session .failed 1 1 0x96 .reset)) = some 0x0003010196 := by decide

/-- Program P3 of 95_test_vectors: the last reassembled offset, and the one after it. -/
theorem test_accRead :
    answer (exec (.accRead 15) busy) = some 0x00EA000000
      ∧ answer (exec (.accRead 21) busy) = some 0x0600000000
      ∧ answer (exec (.accRead 0) halfway) = some 0x0600000000 := by decide

/-- 95_test_vectors section 2.7, operand range. -/
theorem test_cfgSet :
    answer (exec (.cfgSet 48 16 0xFF 1) .reset) = some 0x0000000000
      ∧ answer (exec (.cfgSet 49 16 0xFF 1) .reset) = some 0x0500000000
      ∧ answer (exec (.cfgSet 48 17 0xFF 1) .reset) = some 0x0500000000
      ∧ answer (exec (.cfgSet 48 16 0xFF 0x81) .reset) = some 0x0500000000
      ∧ answer (exec (.cfgSet 255 0 0 0) busy) = some 0x0600000000 := by decide

/-- Both enable bytes land in the 9-bit set (30_encoding R74). -/
theorem test_cfgSet_enable :
    after State.cfgEnable (exec (.cfgSet 7 2 0x2A 1) .reset) = some 0x12A := by decide

theorem test_cfgRead :
    answer (exec .cfgRead (configured 48 16 0x1FF)) = some 0x003010FF81
      ∧ answer (exec .cfgRead (configured 1 1 0x060)) = some 0x0001016080 := by decide

/-- `MUX.LOOKUP 5`, 6 and 8 after `CFG.SET 7, 2, 0x2A, 1` (95_test_vectors section 2.7), R0 being the open command
code. -/
theorem test_muxLookup :
    answer (exec (.muxLookup 5) (configured 7 2 0x12A))
        = some (packWord 0x00 (Config.cmdCode .cellVoltages) 0x03 0x03 0x07)
      ∧ answer (exec (.muxLookup 6) (configured 7 2 0x12A))
        = some (packWord 0x00 (Config.cmdCode .cellTemps) 0x02 0x01 0x02)
      ∧ answer (exec (.muxLookup 8) (configured 7 2 0x12A))
        = some (packWord 0x00 (Config.cmdCode .failureStatus) 0x01 0x01 0x00) := ⟨rfl, rfl, rfl⟩

theorem test_muxLookup_refuses :
    answer (exec (.muxLookup 9) (configured 7 2 0x12A)) = some 0x0600000000
      ∧ answer (exec (.muxLookup 0) .reset) = some 0x0600000000 := by decide

/-! ### Witnesses: for each statement with hypotheses, concrete inputs that meet them, clause by clause -/

theorem test_witness_RstSampleResetsAndTakesNoWord :
    (driving ⟨true, true, 0x2040900000⟩ busy).inputs = ⟨true, true, 0x2040900000⟩ :: []
      ∧ (⟨true, true, 0x2040900000⟩ : PortIn).rst = true := by decide

theorem test_witness_StepRunsTheDecodedCommand :
    (driving (present 0x2040900000) busy).inputs = present 0x2040900000 :: []
      ∧ (present 0x2040900000).rst = false ∧ (present 0x2040900000).cmdValid = true
      ∧ decode (present 0x2040900000).cmd = .ok (.pktEncode 0x40 0x90) := by decide

theorem test_witness_QuietPortChangesNothing :
    busy.inputs = []
      ∧ (driving ⟨false, false, 0x2040900000⟩ busy).inputs = ⟨false, false, 0x2040900000⟩ :: []
      ∧ (⟨false, false, 0x2040900000⟩ : PortIn).rst = false
      ∧ (⟨false, false, 0x2040900000⟩ : PortIn).cmdValid = false := by decide

/-- An opcode at the end of each unassigned range (30_encoding R76). -/
theorem test_witness_UnassignedOpcodeAnswersUsageError :
    (driving (present 0x7F00000000) busy).inputs = present 0x7F00000000 :: []
      ∧ (present 0x7F00000000).rst = false ∧ (present 0x7F00000000).cmdValid = true
      ∧ ∀ op ∈ [0x02#8, 0x0F#8, 0x12#8, 0x1F#8, 0x26#8, 0x2F#8, 0x34#8, 0x3F#8, 0x43#8, 0x7F#8, 0xFF#8],
          op ∉ [0x00#8, 0x01#8, 0x10#8, 0x11#8, 0x20#8, 0x21#8, 0x22#8, 0x23#8, 0x24#8, 0x25#8, 0x30#8,
            0x31#8, 0x32#8, 0x33#8, 0x40#8, 0x41#8, 0x42#8] := by decide

/-- One word a row, the ignored fields not zero. -/
theorem test_witness_MatchAndMaskSelectTheOperation :
    0x00FFFFFFFF#40 &&& 0xFF00000000#40 = 0x0000000000#40
      ∧ 0x01FFFFFFFF#40 &&& 0xFF00000000#40 = 0x0100000000#40
      ∧ 0x10A5409008#40 &&& 0xFF00000000#40 = 0x1000000000#40
      ∧ 0x1101FFFFFF#40 &&& 0xFF00000000#40 = 0x1100000000#40
      ∧ 0x204090FFFF#40 &&& 0xFF00000000#40 = 0x2000000000#40
      ∧ 0x210CFFFFFF#40 &&& 0xFF00000000#40 = 0x2100000000#40
      ∧ 0x22FFFFFFFF#40 &&& 0xFF00000000#40 = 0x2200000000#40
      ∧ 0x23A5FFFFFF#40 &&& 0xFF00000000#40 = 0x2300000000#40
      ∧ 0x24FFFFFFFF#40 &&& 0xFF00000000#40 = 0x2400000000#40
      ∧ 0x250CFFFFFF#40 &&& 0xFF00000000#40 = 0x2500000000#40
      ∧ 0x300395FFFF#40 &&& 0xFF00000000#40 = 0x3000000000#40
      ∧ 0x31FFFFFFFF#40 &&& 0xFF00000000#40 = 0x3100000000#40
      ∧ 0x32FFFFFFFF#40 &&& 0xFF00000000#40 = 0x3200000000#40
      ∧ 0x3306FFFFFF#40 &&& 0xFF00000000#40 = 0x3300000000#40
      ∧ 0x400702FF01#40 &&& 0xFF00000000#40 = 0x4000000000#40
      ∧ 0x41FFFFFFFF#40 &&& 0xFF00000000#40 = 0x4100000000#40
      ∧ 0x4205FFFFFF#40 &&& 0xFF00000000#40 = 0x4200000000#40 := by decide

theorem test_witness_EncodeOfDecodeClearsUnusedFields :
    decode 0x204090FFFF#40 = .ok (.pktEncode 0x40 0x90) := by decide

theorem test_witness_SysResetResetsEveryRegister :
    (⟨true, false, 0⟩ : PortIn).rst = true := rfl

theorem test_witness_SumLawsOfTheChecksum :
    [0xA5#8, 0x40#8, 0x90#8, 0x08#8].Perm [0x08#8, 0x90#8, 0x40#8, 0xA5#8]
      ∧ (List.replicate 12 0xFF#8).length = 12 ∧ (List.replicate 4 0xFF#8).length = 4 := by decide

/-- One operand or state a clause; the counts beside 13 and the selections beside 1. -/
theorem test_witness_VerifyAnswersTheVerdict :
    2 ≤ (2#8).toNat ∧ 2 ≤ (255#8).toNat ∧ (0#8).toNat = 0 ∧ (1#8).toNat = 1
      ∧ (received (goodPacket.take 12) 12).rxCount.toNat ≠ 13
      ∧ (received goodPacket 14).rxCount.toNat ≠ 13
      ∧ State.reset.txValid = false
      ∧ (received goodPacket 13).rxCount.toNat = 13
      ∧ busy.txValid = true := by decide

/-- The first covered byte and the checksum byte itself (95_test_vectors section 2.2). -/
theorem test_witness_SingleByteChangeIsDetected :
    (received goodPacket 13).rxCount.toNat = 13 ∧ 0 < 13 ∧ 12 < 13
      ∧ 0x25#8 ≠ (received goodPacket 13).rxByte 0 ∧ 0xDD#8 ≠ (received goodPacket 13).rxByte 12
      ∧ ∃ t, exec (.cksVerify 0#8) (received goodPacket 13) = .next t ∧ t.r0 = 0x01#8 :=
  ⟨by decide, by decide, by decide, by decide, by decide, _, rfl, by decide⟩

/-- Bytes 4 and 5 swapped (95_test_vectors section 2.2), and the last covered byte. -/
theorem test_witness_SwappedBytesAreNotDetected :
    4 < 12 ∧ 5 < 12 ∧ 11 < 12
      ∧ ∃ t, exec (.cksVerify 0#8) (received goodPacket 13) = .next t :=
  ⟨by decide, by decide, by decide, _, rfl⟩

theorem test_witness_PushStoresOrSaturates :
    (received [] 0).rxCount.toNat < 13 ∧ (received (goodPacket.take 12) 12).rxCount.toNat < 13
      ∧ 13 ≤ (received goodPacket 13).rxCount.toNat
      ∧ 13 ≤ (received goodPacket 14).rxCount.toNat := by decide

theorem test_witness_DecodeAnswersTheEnvelope :
    (received goodPacket 13).rxCount.toNat = 13
      ∧ (received (goodPacket.take 12) 12).rxCount.toNat ≠ 13
      ∧ (received goodPacket 14).rxCount.toNat ≠ 13 := by decide

theorem test_witness_LoadFillsTheReceiveBuffer :
    0 < 13 ∧ goodPacket[0]? = some 0xA5#8 ∧ 12 < 13 ∧ goodPacket[12]? = some 0xDC#8 := by decide

theorem test_witness_StartOpensTheExchange :
    16 < (17#8).toNat ∧ 16 < (255#8).toNat ∧ (16#8).toNat ≤ 16 ∧ (0#8).toNat ≤ 16 := by decide

/-- One state a clause; the accepting clause at the first and the last index. -/
theorem test_witness_FeedAcceptsOnlyTheExpectedFrame :
    (received (goodPacket.take 12) 12).rxCount.toNat ≠ 13
      ∧ (let s := received frame0 13; s.rxCount.toNat = 13 ∧ s.rsmState = .idle)
      ∧ (let s := session .failed 0 3 0x95 (received frame0 13);
          s.rxCount.toNat = 13 ∧ s.rsmState = .failed)
      ∧ (busy.rxCount.toNat = 13 ∧ busy.rsmState = .complete)
      ∧ (let s := session .await 0 2 0x96 (received frameSentinel 13);
          s.rxCount.toNat = 13 ∧ s.rsmState = .await ∧ s.rxByte 4 = 0xFF#8)
      ∧ (let s := session .await 0 3 0x95 (received frame1 13);
          s.rxCount.toNat = 13 ∧ s.rsmState = .await ∧ (s.rxByte 4).toNat ≠ s.rsmNext.toNat)
      ∧ (let s := session .await 0 3 0x95 (received frame0 13);
          s.rxCount.toNat = 13 ∧ s.rsmState = .await ∧ s.rsmNext.toNat < 16
            ∧ (s.rxByte 4).toNat = s.rsmNext.toNat)
      ∧ (let s := session .await 15 16 0x95 (received (frameAt 15) 13);
          s.rxCount.toNat = 13 ∧ s.rsmState = .await ∧ s.rsmNext.toNat < 16
            ∧ (s.rxByte 4).toNat = s.rsmNext.toNat) := by decide

/-- A failed exchange with a well-sized packet, and an operation that neither starts nor resets. -/
theorem test_witness_FailedIsTerminal :
    let s := session .failed 1 2 0x96 (received frame0 13);
    s.rsmState = .failed ∧ s.rxCount.toNat = 13
      ∧ ∃ t, exec (.rxPush 0) s = .next t ∧ (∀ c b, Instr.rxPush 0 ≠ .rsmStart c b)
          ∧ Instr.rxPush 0 ≠ .sysReset :=
  ⟨rfl, rfl, _, rfl, nofun, nofun⟩

theorem test_witness_PartialBufferIsNeverRead :
    halfway.rsmState ≠ .complete ∧ ∃ t, exec (.accRead 0) halfway = .next t :=
  ⟨by decide, _, rfl⟩

/-- Three frames, and the bounds at one frame and at sixteen. -/
theorem test_witness_FramesInOrderAreReassembled :
    (let frames := [frame0, frame1, frame2];
      1 ≤ frames.length ∧ frames.length ≤ 16 ∧ (∀ f ∈ frames, f.length = 13)
        ∧ ∀ k f, frames[k]? = some f → f[4]? = some (BitVec.ofNat 8 k))
      ∧ (let frames := (List.range 16).map fun k => frameAt (BitVec.ofNat 8 k);
        1 ≤ frames.length ∧ frames.length ≤ 16 ∧ (∀ f ∈ frames, f.length = 13)
          ∧ ∀ k f, frames[k]? = some f → f[4]? = some (BitVec.ofNat 8 k)) := by
  refine ⟨⟨by decide, by decide, by decide, fun k f h => ?_⟩, by decide, by decide, by decide, ?_⟩
  · match k, h with
    | 0, h | 1, h | 2, h => cases h; rfl
    | k + 3, h => simp at h
  · intro k f h
    simp only [List.getElem?_map, Option.map_eq_some_iff] at h
    obtain ⟨j, hj, rfl⟩ := h
    obtain ⟨_, rfl⟩ := List.getElem?_eq_some_iff.mp hj
    rw [List.getElem_range]
    rfl

/-- The offsets a read can reach: the last byte of the last frame, and the first offset beyond. -/
theorem test_witness_FramesInOrderAreReassembled_reads :
    [frame0, frame1, frame2][2]? = some frame2 ∧ 6 < 7 ∧ frame2[5 + 6]? = some 0x00#8
      ∧ (20#8).toNat = 7 * 2 + 6 ∧ 7 * [frame0, frame1, frame2].length ≤ (21#8).toNat := by decide

theorem test_witness_NoReadSucceedsAfterARejection :
    (session .failed 1 2 0x96 .reset).rsmState = .failed
      ∧ (∀ i ∈ [Instr.rxClear, .rxPush 1, .rsmFeed], (∀ c b, i ≠ .rsmStart c b) ∧ i ≠ .sysReset)
      ∧ ∃ t, execAll [.rxClear, .rxPush 1, .rsmFeed] (session .failed 1 2 0x96 .reset) = .next t :=
  ⟨rfl, by simp, _, rfl⟩

/-- Another envelope and another checksum byte around the same index and data. -/
theorem test_witness_FeedIgnoresEnvelopeAndChecksum :
    let s := session .await 0 3 0x95 (received frame0 13);
    let other := cells ([0, 0, 0, 0] ++ frame0.extract 4 12 ++ [0xEE]);
    (∀ i, 4 ≤ i → i ≤ 11 → memRead .rx other i = s.rxByte i)
      ∧ ∃ t, exec .rsmFeed s = .next t := by
  refine ⟨fun i h1 h2 => ?_, _, rfl⟩
  interval_cases i <;> rfl

theorem test_witness_ConfigureOnceWithinRange :
    busy.cfgValid = true ∧ State.reset.cfgValid = false
      ∧ 48 < (49#8).toNat ∧ 16 < (17#8).toNat ∧ 2 ≤ (2#8).toNat ∧ 2 ≤ (0x81#8).toNat
      ∧ (48#8).toNat ≤ 48 ∧ (16#8).toNat ≤ 16 ∧ (1#8).toNat < 2 := by decide

/-- Neither configured nor a group; the last group; the first id beyond. -/
theorem test_witness_LookupAnswersTheGroup :
    State.reset.cfgValid = false ∧ 9 ≤ (9#8).toNat ∧ busy.cfgValid = true
      ∧ [TelemetryGroup.soc, .minmaxCellV, .minmaxTemp, .mosStatus, .statusInfo1, .cellVoltages,
          .cellTemps, .cellBalance, .failureStatus][(8#8).toNat]? = some .failureStatus := by decide

theorem test_witness_FrameCountIsTheCeiling :
    TelemetryGroup.soc ≠ .cellVoltages ∧ TelemetryGroup.soc ≠ .cellTemps
      ∧ (configured 48 0 0).cfgCells.toNat = 3 * 16 ∧ (configured 7 0 0).cfgCells.toNat = 3 * 2 + 1
      ∧ (configured 0 14 0).cfgSensors.toNat = 7 * 2 ∧ (configured 0 15 0).cfgSensors.toNat = 7 * 2 + 1
      ∧ (configured 48 16 0).cfgCells.toNat ≤ 48 ∧ (configured 48 16 0).cfgSensors.toNat ≤ 16 := by
  decide

theorem test_witness_ConfigurationIsFixedUntilReset :
    let s := driving (present 0x400101FF00) busy;
    s.cfgValid = true ∧ (∃ t, step s = .next t)
      ∧ ∀ p rest, s.inputs = p :: rest → p.rst = false ∧ decode p.cmd ≠ .ok .sysReset := by
  refine ⟨rfl, ⟨_, rfl⟩, fun p rest h => ?_⟩
  obtain ⟨rfl, rfl⟩ := List.cons.inj h
  decide

/-- A state in use meets the invariants. -/
theorem test_witness_Inv_busy : Inv busy where
  rxCount_le := by decide
  next_le := by decide
  expected_le := by decide
  complete_next _ := by decide
  await_next h := nomatch h
  idle_session h := nomatch h
  unconfigured h := nomatch h
  cells_le := by decide
  sensors_le := by decide
  request _ := ⟨by decide, by decide, fun i _ _ => by interval_cases i <;> rfl, by decide⟩
  tx_written _ := by decide
  rx_written := by decide
  acc_written _ := by decide
  tx_wf := by decide
  rx_wf := by decide
  acc_wf := by decide

/-- The invariants do not depend on the samples still to come. -/
theorem test_witness_Inv_driving (p : PortIn) : Inv (driving p busy) :=
  ⟨test_witness_Inv_busy.1, test_witness_Inv_busy.2, test_witness_Inv_busy.3, test_witness_Inv_busy.4,
    test_witness_Inv_busy.5, test_witness_Inv_busy.6, test_witness_Inv_busy.7, test_witness_Inv_busy.8,
    test_witness_Inv_busy.9, test_witness_Inv_busy.10, test_witness_Inv_busy.11,
    test_witness_Inv_busy.12, test_witness_Inv_busy.13, test_witness_Inv_busy.14,
    test_witness_Inv_busy.15, test_witness_Inv_busy.16⟩

theorem test_witness_EveryCommandGetsOneResponse :
    let s := driving (present 0x3100000000) busy;
    Inv s ∧ s.inputs = present 0x3100000000 :: [] ∧ (present 0x3100000000).rst = false
      ∧ (present 0x3100000000).cmdValid = true :=
  ⟨test_witness_Inv_driving _, rfl, rfl, rfl⟩

theorem test_witness_EveryStepKeepsTheInvariants :
    Inv (driving (present 0x3100000000) busy)
      ∧ ∃ t, step (driving (present 0x3100000000) busy) = .next t :=
  ⟨test_witness_Inv_driving _, _, rfl⟩

theorem test_witness_StepNeverStops : Inv (driving (present 0x3100000000) busy) :=
  test_witness_Inv_driving _

/-- Errors without an effect, a `SequenceError` in `FAILED` among them, and the one with an effect, from `COMPLETE` and
from `AWAIT`. -/
theorem test_witness_ErrorsChangeNothingButFailed :
    (∃ t, exec (.txRead 13) busy = .next t ∧ t.status ≠ 0x00#8)
      ∧ (∃ t, exec .rsmFeed (session .failed 1 2 0x96 (received frame0 13)) = .next t ∧ t.status = 0x04#8)
      ∧ (∃ t, exec .rsmFeed busy = .next t ∧ t.status = 0x04#8)
      ∧ ∃ t, exec .rsmFeed (session .await 0 3 0x95 (received frame1 13)) = .next t
          ∧ t.status = 0x04#8 :=
  ⟨⟨_, rfl, by decide⟩, ⟨_, rfl, by decide⟩, ⟨_, rfl, by decide⟩, _, rfl, by decide⟩

/-- An operation with every entry of the table and one with none. -/
theorem test_witness_ErrorsAreThoseOfTheTable :
    (∃ t, exec .rsmFeed busy = .next t) ∧ ∃ t, exec .sysNop busy = .next t := ⟨⟨_, rfl⟩, _, rfl⟩

theorem test_witness_StatusAnswersTheSession : (0#8).toNat < 112 ∧ (111#8).toNat < 112 := by decide

theorem test_witness_ReadsHaveNoSideEffect :
    (∃ a, Instr.txRead 0 = .txRead a) ∧ (∃ a, Instr.rxRead 0 = .rxRead a)
      ∧ (∃ a, Instr.accRead 0 = .accRead a) ∧ (∃ a, Instr.cksVerify 0 = .cksVerify a)
      ∧ ∃ a, Instr.muxLookup 0 = .muxLookup a :=
  ⟨⟨_, rfl⟩, ⟨_, rfl⟩, ⟨_, rfl⟩, ⟨_, rfl⟩, _, rfl⟩

theorem test_witness_OnlyTheListedOperationsWrite :
    (∃ t, exec (.rxPush 0xAA) busy = .next t) ∧ Instr.rxPush 0xAA ≠ .sysReset
      ∧ (∀ a b, Instr.rxPush 0xAA ≠ .pktEncode a b) ∧ (∀ a b, Instr.rxPush 0xAA ≠ .rsmStart a b)
      ∧ (∀ a b c d, Instr.rxPush 0xAA ≠ .cfgSet a b c d) ∧ Instr.rxPush 0xAA ≠ .rsmFeed
      ∧ (∀ a, Instr.rsmFeed ≠ .rxPush a) ∧ Instr.rsmFeed ≠ .rxClear ∧ ∃ t, exec .rsmFeed busy = .next t := by
  refine ⟨⟨_, rfl⟩, ?_, ?_, ?_, ?_, ?_, ?_, ?_, _, rfl⟩ <;> simp

/-- The last index each gate admits. -/
theorem test_witness_OnlyWrittenBytesAreRead :
    Inv busy ∧ (∃ t, exec (.txRead 12) busy = .next t ∧ t.status = 0x00#8)
      ∧ (∃ t, exec (.rxRead 12) busy = .next t ∧ t.status = 0x00#8)
      ∧ ∃ t, exec (.accRead 20) busy = .next t ∧ t.status = 0x00#8 :=
  ⟨test_witness_Inv_busy, ⟨_, rfl, by decide⟩, ⟨_, rfl, by decide⟩, _, rfl, by decide⟩

/-- Two states that differ only in bytes no gate admits: one has never received, the other has cleared what it
received. -/
theorem test_witness_ResidueIsNeverObserved :
    SameObservable (driving (present 0x2500000000) (received goodPacket 0))
        (driving (present 0x2500000000) State.reset)
      ∧ ∃ t, step (driving (present 0x2500000000) (received goodPacket 0)) = .next t :=
  ⟨⟨rfl, rfl, rfl, rfl, rfl, rfl, rfl, rfl, rfl, rfl, rfl, rfl, rfl, nofun,
    fun i _ h => absurd h (Nat.not_lt_zero i), fun h => by rcases h with h | h <;> cases h⟩, _, rfl⟩

theorem test_witness_OperandOutOfRangeIsAnError :
    (Instr.cfgSet 48 16 0xFF 2).wellFormed = false ∧ (Instr.accRead 112).wellFormed = false := by decide

end Sys2Proof.Tests
end

/-! ## The equations of a step, and the obligations of 00_scope settled from them -/

namespace Sys2Proof.Machine

section StepEquations

variable {s : State} {p : PortIn} {rest : List PortIn}

/-- Quiet ports for good: no sample is left (assumption log 4). -/
theorem step_of_inputs_nil (hi : s.inputs = []) : step s = .next s := by
  simp only [step, fetch_nil s hi]

/-- A sample without `rst` and without a command word leaves the list (60_exceptions R220). -/
theorem step_of_quiet (hi : s.inputs = p :: rest) (hr : p.rst = false) (hv : p.cmdValid = false) :
    step s = .next (s.setInputs rest) := by
  simp only [step, fetch_cons s p rest hi, portEvent_quiet p hr hv]

/-- A command word the decoder knows is executed on the state without its sample (30_encoding R80). -/
theorem step_of_command {i : Instr} (hi : s.inputs = p :: rest) (hr : p.rst = false)
    (hv : p.cmdValid = true) (hd : decode p.cmd = .ok i) : step s = exec i (s.setInputs rest) := by
  simp only [step, fetch_cons s p rest hi, portEvent_command p hr hv, hd]

end StepEquations

/-- Settles O3: `State.setInputs` is the update of the list of samples that the statement writes out. -/
theorem stepRunsTheDecodedCommand : Obligations.StepRunsTheDecodedCommand :=
  fun _ _ _ _ hi hr hv hd => step_of_command hi hr hv hd

/-- Settles O4, one equation of the step for each way the ports can be quiet. -/
theorem quietPortChangesNothing : Obligations.QuietPortChangesNothing :=
  ⟨fun _ hi => step_of_inputs_nil hi, fun _ _ _ hi hr hv => step_of_quiet hi hr hv⟩

end Sys2Proof.Machine

/-! ## What each operation writes (10_state sections 3 to 6) -/

namespace Sys2Proof.Machine

/-- `Writes s i u`: instruction `i`, run in state `s`, can leave the items of 10_state R20 as `u` has them, the response
port aside. `exec_writes` ties it to `exec`. -/
inductive Writes (s : State) : Instr → State → Prop where
  | nothing (i : Instr) : Writes s i s
  | resetRegisters : Writes s .sysReset s.resetRegisters
  | loadTx (a b : Byte) : Writes s (.pktEncode a b) (s.loadTx (requestPacket a b))
  | clearRx : Writes s .rxClear (s.setRxCount 0)
  | pushByte (v : Byte) : Writes s (.rxPush v) (pushByte v s)
  | openSession (n c : Byte) (hn : n.toNat ≤ 16) : Writes s (.rsmStart n c)
      (s.setSession (if n = 0#8 then .complete else .await) 0 (n.setWidth 5) c)
  | failSession : Writes s .rsmFeed (s.setRsmState .failed)
  | acceptFrame (hs : s.rsmState = .await) (hn : s.rsmNext.toNat < 16) :
      Writes s .rsmFeed (acceptFrame s)
  | configure (a b c d : Byte) (ha : a.toNat ≤ 48) (hb : b.toNat ≤ 16) : Writes s (.cfgSet a b c d)
      (s.setConfig (a.extractLsb' 0 6) (b.extractLsb' 0 5) (enableSet c d))

section Writes

variable {i : Instr} {s t u : State} {r : Response}

/-- The outcome of a branch that writes and answers. -/
theorem Writes.answered (hw : Writes s i u) (h : (.next (u.respond r) : Host.Outcome State Fault Refusal) = .next t) :
    ∃ u r, Writes s i u ∧ t = State.respond u r :=
  ⟨u, r, hw, (Host.Outcome.next.inj h).symm⟩

/-- An instruction that answers a next state has written what its rule lists, and a response. -/
theorem exec_writes (h : exec i s = .next t) : ∃ u r, Writes s i u ∧ t = State.respond u r := by
  cases i with
  | sysNop => exact (Writes.nothing _).answered h
  | sysReset => exact Writes.resetRegisters.answered h
  | cksCompute a b c d => exact (Writes.nothing _).answered h
  | cksVerify a =>
    simp only [exec, execCksVerify] at h
    repeat' split at h
    all_goals exact (Writes.nothing _).answered h
  | pktEncode a b => exact (Writes.loadTx a b).answered h
  | txRead a =>
    simp only [exec, execTxRead] at h
    split at h <;> exact (Writes.nothing _).answered h
  | rxClear => exact Writes.clearRx.answered h
  | rxPush v => exact (Writes.pushByte v).answered h
  | pktDecode =>
    simp only [exec, execPktDecode] at h
    split at h <;> exact (Writes.nothing _).answered h
  | rxRead a =>
    simp only [exec, execRxRead] at h
    split at h <;> exact (Writes.nothing _).answered h
  | rsmStart n c =>
    simp only [exec, execRsmStart] at h
    split at h
    · exact (Writes.nothing _).answered h
    · next hn => exact (Writes.openSession n c (Nat.not_lt.mp hn)).answered h
  | rsmFeed =>
    rcases execRsmFeed_cases s h with ⟨e, _, rfl⟩ | ⟨_, _, rfl⟩ | ⟨_, hs, _, hn, rfl⟩
    · exact (Writes.nothing _).answered rfl
    · exact Writes.failSession.answered rfl
    · exact (Writes.acceptFrame hs hn).answered rfl
  | rsmStatus => exact (Writes.nothing _).answered h
  | accRead a =>
    simp only [exec, execAccRead] at h
    split at h <;> exact (Writes.nothing _).answered h
  | cfgSet a b c d =>
    simp only [exec, execCfgSet] at h
    split at h
    · exact (Writes.nothing _).answered h
    · split at h
      · exact (Writes.nothing _).answered h
      · next hr =>
        simp only [not_or, Nat.not_lt] at hr
        obtain ⟨hcells, hsensors, _⟩ := hr
        exact (Writes.configure a b c d hcells hsensors).answered h
  | cfgRead => exact (Writes.nothing _).answered h
  | muxLookup a =>
    simp only [exec, execMuxLookup] at h
    repeat' split at h
    all_goals exact (Writes.nothing _).answered h

end Writes

/-- A pushed byte writes `RXBUF` and `rx_count` only (41_packet_framer R123). -/
theorem pushByte_frame (v : Byte) (s : State) :
    pushByte v s = { s with rx := (pushByte v s).rx, rxCount := (pushByte v s).rxCount } := by
  unfold pushByte
  split <;> rfl

/-- Settles O47: the frame of each kind of write. -/
theorem onlyTheListedOperationsWrite : Obligations.OnlyTheListedOperationsWrite := by
  intro i s t h
  obtain ⟨u, r, hw, rfl⟩ := exec_writes h
  cases hw with
  | nothing => simp
  | resetRegisters => simp
  | loadTx a b => simp
  | clearRx => simp
  | pushByte v => rw [pushByte_frame]; simp
  | openSession n c => simp
  | failSession => simp
  | acceptFrame hs hn => simp [acceptFrame_eq]
  | configure a b c d => simp

end Sys2Proof.Machine

/-! ## The state after reset (10_state R38) -/

namespace Sys2Proof.Machine

section ClosedGates

variable (a : Byte) {s : State}

/-- The gate of 20_memory R53: no request has been built. -/
theorem execTxRead_of_not_txValid (h : s.txValid = false) :
    execTxRead a s = .next (s.answered 0x0600000000#40) := by
  rw [← raise_usageError]
  exact if_neg fun hg => Bool.false_ne_true (h.symm.trans hg.1)

/-- The gate of 20_memory R54: the index is not below `rx_count`. -/
theorem execRxRead_of_rxCount_le (h : s.rxCount.toNat ≤ a.toNat) :
    execRxRead a s = .next (s.answered 0x0600000000#40) := by
  rw [← raise_usageError]
  exact if_neg fun hg => Nat.not_lt.mpr h (lt_of_lt_of_le hg (Nat.min_le_left ..))

/-- The gate of 20_memory R55: the exchange is not complete. -/
theorem execAccRead_of_ne_complete (h : s.rsmState ≠ .complete) :
    execAccRead a s = .next (s.answered 0x0600000000#40) := by
  rw [← raise_usageError]
  exact if_neg fun hg => h hg.1

end ClosedGates

/-- Settles O1: each gate is closed by one scalar of the reset state. -/
theorem resetClearsScalarsAndHidesBuffers : Obligations.ResetClearsScalarsAndHidesBuffers :=
  ⟨rfl, rfl, rfl, rfl, rfl, rfl, rfl, rfl, rfl, rfl, fun a =>
    ⟨execTxRead_of_not_txValid a rfl, execRxRead_of_rxCount_le a (Nat.zero_le _),
      execAccRead_of_ne_complete a nofun⟩⟩

/-- Settles O41: every bound is one on 0, and no gate admits a byte. -/
theorem resetMeetsTheInvariants : Obligations.ResetMeetsTheInvariants where
  rxCount_le := by decide
  next_le := by decide
  expected_le := by decide
  complete_next := nofun
  await_next := nofun
  idle_session _ := ⟨rfl, rfl, rfl⟩
  unconfigured _ := ⟨rfl, rfl, rfl⟩
  cells_le := by decide
  sensors_le := by decide
  request := nofun
  tx_written := nofun
  rx_written i _ h := absurd h (Nat.not_lt_zero i)
  acc_written h := by rcases h with h | h <;> cases h
  tx_wf := rfl
  rx_wf := rfl
  acc_wf := rfl

end Sys2Proof.Machine

/-! ## The invariants of 10_state R39 through each write, and through a step -/

namespace Sys2Proof.Machine

/-- Every index of a written range is listed. -/
theorem isSome_memLookup_memWriteList (m : Memory) (base : Nat) (vs : List Byte) (j : Nat)
    (h : base ≤ j) (h' : j < base + vs.length) :
    (memLookup (memWriteList m base vs) j).isSome = true := by
  rw [memLookup_memWriteList, if_pos ⟨h, h'⟩, List.getElem?_eq_getElem (by omega)]
  rfl

/-- Writes unlist no index. -/
theorem isSome_memLookup_memWriteList_of_isSome (m : Memory) (base : Nat) (vs : List Byte) (j : Nat)
    (h : (memLookup m j).isSome = true) : (memLookup (memWriteList m base vs) j).isSome = true := by
  by_cases hj : base ≤ j ∧ j < base + vs.length
  · exact isSome_memLookup_memWriteList m base vs j hj.1 hj.2
  · rw [memLookup_memWriteList, if_neg hj, h]

theorem rxCount_succ_toNat (s : State) (h : s.rxCount.toNat < 15) :
    (s.rxCount + 1).toNat = s.rxCount.toNat + 1 := by
  rw [BitVec.toNat_add]
  simp
  omega

/-- The first twelve bytes of a request: the payload is zero and adds nothing. -/
theorem requestPacket_sum (a b : Byte) :
    ((List.range 12).map fun i => ((requestPacket a b).getD i 0#8).toNat).sum
      = 0xA5 + a.toNat + b.toNat + 8 := by
  simp [requestPacket_eq, List.range_succ]
  omega

theorem loadTx_requestPacket_byte (s : State) (a b : Byte) (i : Nat) (hi : i < 13) :
    (s.loadTx (requestPacket a b)).txByte i = (requestPacket a b).getD i 0#8 :=
  loadTx_byte s _ i _ (by
    rw [List.getD_eq_getElem?_getD, List.getElem?_eq_getElem hi, Option.getD_some])

/-- A loaded request is one in the sense of `Inv.request`: its envelope, its zero payload and the checksum of its first
twelve bytes (41_packet_framer R120). -/
theorem loadTx_request (s : State) (a b : Byte) :
    let t := s.loadTx (requestPacket a b)
    t.txByte 0 = 0xA5#8 ∧ t.txByte 3 = 0x08#8 ∧ (∀ i, 4 ≤ i → i ≤ 11 → t.txByte i = 0x00#8)
      ∧ (t.txByte 12).toNat = ((List.range 12).map fun i => (t.txByte i).toNat).sum % 256 := by
  have byte := loadTx_requestPacket_byte s a b
  refine ⟨byte 0 (by decide), byte 3 (by decide),
    fun i h h' => loadTx_byte s _ i _ (requestPacket_payload a b i h h'), ?_⟩
  have hbytes := List.map_congr_left (l := List.range 12) fun i hi =>
    congrArg BitVec.toNat (byte i (by simp at hi; omega))
  rw [hbytes, requestPacket_sum, byte 12 (by decide)]
  exact requestChecksum_toNat a b

namespace Inv

variable {s : State}

theorem respond (h : Inv s) (r : Response) : Inv (s.respond r) := { h with }

theorem setInputs (h : Inv s) (rest : List PortIn) : Inv (s.setInputs rest) := { h with }

theorem resetRegisters (s : State) : Inv s.resetRegisters := { resetMeetsTheInvariants with }

theorem assertReset (s : State) : Inv s.assertReset := { resetMeetsTheInvariants with }

theorem loadTx (h : Inv s) (a b : Byte) : Inv (s.loadTx (requestPacket a b)) :=
  { h with
    request := fun _ => loadTx_request s a b
    tx_written := fun _ i hi => isSome_memLookup_memWriteList _ 0 _ i (Nat.zero_le i) (by simpa using hi)
    tx_wf := memWriteList_wf 13 s.tx 0 _ (by simp) h.tx_wf }

theorem clearRx (h : Inv s) : Inv (s.setRxCount 0) :=
  { h with
    rxCount_le := Nat.zero_le 14
    rx_written := fun i _ hi => absurd hi (Nat.not_lt_zero i) }

theorem pushByte (h : Inv s) (v : Byte) : Inv (pushByte v s) := by
  by_cases hroom : s.rxCount.toNat < 13
  · rw [pushByte_room s v hroom]
    have hsucc := rxCount_succ_toNat s (by omega)
    exact
      { h with
        rxCount_le := show (s.rxCount + 1).toNat ≤ 14 by omega
        rx_written := fun i hi hlt => by
          simp only [State.setRxCount_rxCount, hsucc] at hlt
          simp only [State.setRxCount_rx, State.storeRx_rx, memLookup_memWrite]
          split
          · rfl
          · exact h.rx_written i hi (by omega)
        rx_wf := memWrite_wf 13 s.rx _ v hroom h.rx_wf }
  · rw [pushByte_full s v (Nat.not_lt.mp hroom)]
    exact
      { h with
        rxCount_le := le_refl 14
        rx_written := fun i hi _ => h.rx_written i hi (by omega) }

theorem openSession (h : Inv s) (n c : Byte) (hn : n.toNat ≤ 16) :
    Inv (s.setSession (if n = 0#8 then .complete else .await) 0 (n.setWidth 5) c) := by
  have hw : (n.setWidth 5).toNat = n.toNat := by
    rw [BitVec.toNat_setWidth]; omega
  exact
    { h with
      next_le := Nat.zero_le _
      expected_le := show (n.setWidth 5).toNat ≤ 16 by omega
      complete_next := fun hs => by
        have h0 : n = 0#8 := by simpa using hs
        rw [h0]; rfl
      await_next := fun hs => by
        have h0 : n ≠ 0#8 := by simpa using hs
        show 0 < (n.setWidth 5).toNat
        bv_omega
      idle_session := fun hs => by
        rw [State.setSession_rsmState] at hs
        split at hs <;> cases hs
      acc_written := fun _ i hi => absurd hi (Nat.not_lt_zero i) }

theorem failSession (h : Inv s) : Inv (s.setRsmState .failed) :=
  { h with
    complete_next := nofun
    await_next := nofun
    idle_session := nofun
    acc_written := fun hs => by rcases hs with hs | hs <;> cases hs }

theorem acceptFrame (h : Inv s) (hs : s.rsmState = .await) (hn : s.rsmNext.toNat < 16) :
    Inv (acceptFrame s) := by
  have hlt := h.await_next hs
  have hsucc := rsmNext_succ_toNat s (by omega)
  rw [acceptFrame_eq, hs]
  exact
    { h with
      next_le := show (s.rsmNext + 1).toNat ≤ s.rsmExpected.toNat by omega
      complete_next := fun hc => by simpa using hc
      await_next := fun ha => by
        have hne : s.rsmNext + 1 ≠ s.rsmExpected := by simpa using ha
        have := mt BitVec.eq_of_toNat_eq hne
        show (s.rsmNext + 1).toNat < s.rsmExpected.toNat
        omega
      idle_session := fun hi => by
        dsimp only at hi
        split at hi <;> cases hi
      acc_written := fun _ i hi => by
        by_cases hold : i < 7 * s.rsmNext.toNat
        · exact isSome_memLookup_memWriteList_of_isSome _ _ _ i (h.acc_written (.inl hs) i hold)
        · refine isSome_memLookup_memWriteList _ _ _ i ?_ ?_
          · rw [frameBase_eq]; omega
          · rw [frameBase_eq, frameBytes_length]; dsimp only at hi; omega
      acc_wf := memWriteList_wf 112 s.acc _ _
        (by rw [frameBase_eq, frameBytes_length]; omega) h.acc_wf }

theorem configure (h : Inv s) (a b : Byte) (e : BitVec 9) (ha : a.toNat ≤ 48) (hb : b.toNat ≤ 16) :
    Inv (s.setConfig (a.extractLsb' 0 6) (b.extractLsb' 0 5) e) :=
  { h with
    unconfigured := nofun
    cells_le := by simp; omega
    sensors_le := by simp; omega }

theorem writes {i : Instr} {u : State} (h : Inv s) (hw : Writes s i u) : Inv u := by
  cases hw with
  | nothing => exact h
  | resetRegisters => exact resetRegisters s
  | loadTx a b => exact h.loadTx a b
  | clearRx => exact h.clearRx
  | pushByte v => exact h.pushByte v
  | openSession n c hn => exact h.openSession n c hn
  | failSession => exact h.failSession
  | acceptFrame hs hn => exact h.acceptFrame hs hn
  | configure a b c d ha hb => exact h.configure a b _ ha hb

end Inv

/-- Settles O42, by the ways of `step_cases`: an executed instruction is one of its writes and a response. -/
theorem everyStepKeepsTheInvariants : Obligations.EveryStepKeepsTheInvariants := by
  intro s t h hstep
  rcases step_cases hstep with ⟨rest, rfl⟩ | ⟨p, rest, _, _, rfl⟩ | ⟨p, rest, i, _, _, _, _, hexec⟩
    | ⟨p, rest, _, _, _, rfl⟩
  · exact h.setInputs rest
  · exact Inv.assertReset _
  · obtain ⟨u, r, hw, rfl⟩ := exec_writes hexec
    exact ((h.setInputs rest).writes hw).respond r
  · exact (h.setInputs rest).respond _

end Sys2Proof.Machine

/-! ## The residue of the buffers (10_state R37) -/

namespace Sys2Proof.Machine

section Memory

variable {b : Buffer} {m m' : Memory}

/-- Memories that agree below `base` agree up to the end of what is written from there. -/
theorem memRead_memWriteList_congr {base : Nat} (vs : List Byte)
    (h : ∀ i, i < base → memRead b m i = memRead b m' i) (i : Nat) (hi : i < base + vs.length) :
    memRead b (memWriteList m base vs) i = memRead b (memWriteList m' base vs) i := by
  by_cases hb : i < base
  · rw [memRead_memWriteList_outside b m base vs i (.inl hb),
      memRead_memWriteList_outside b m' base vs i (.inl hb), h i hb]
  · have hin : base ≤ i ∧ i < base + vs.length := ⟨Nat.not_lt.mp hb, hi⟩
    unfold memRead
    rw [memLookup_memWriteList, memLookup_memWriteList, if_pos hin, if_pos hin,
      List.getElem?_eq_getElem (by omega), Option.getD_some]
theorem memReadList_congr {base n : Nat}
    (h : ∀ i, base ≤ i → i < base + n → memRead b m i = memRead b m' i) :
    memReadList b m base n = memReadList b m' base n :=
  List.map_congr_left fun k hk => h (base + k) (Nat.le_add_right ..) (by simpa using hk)

theorem verdict_congr (h : ∀ i, i < 13 → memRead b m i = memRead b m' i) :
    verdict b m = verdict b m' := by
  have hsum : memReadList b m 0 (Config.pktSize - 1) = memReadList b m' 0 (Config.pktSize - 1) :=
    memReadList_congr fun i _ hi => h i (by simp at hi; omega)
  have hstored : memRead b m (Config.pktSize - 1) = memRead b m' (Config.pktSize - 1) := h 12 (by decide)
  simp only [verdict, hsum, hstored]

end Memory

/-- Where the first outcome is a next state, the second is one the host cannot tell from it. -/
def SameOutcome (o o' : Host.Outcome State Fault Refusal) : Prop :=
  ∀ t, o = .next t → ∃ t', o' = .next t' ∧ SameObservable t t'

theorem SameOutcome.ite {c c' : Prop} [Decidable c] [Decidable c']
    {x x' y y' : Host.Outcome State Fault Refusal} (hc : c ↔ c') (hx : c → SameOutcome x x')
    (hy : ¬c → SameOutcome y y') : SameOutcome (if c then x else y) (if c' then x' else y') := by
  by_cases h : c
  · rw [if_pos h, if_pos (hc.mp h)]; exact hx h
  · rw [if_neg h, if_neg (mt hc.mpr h)]; exact hy h

theorem SameOutcome.fault (f : Fault) (o : Host.Outcome State Fault Refusal) :
    SameOutcome (.fault f) o := nofun

namespace SameObservable

variable {s s' : State}

/-! ### The updates of the state -/

theorem next (h : SameObservable s s') : SameOutcome (.next s) (.next s') :=
  fun _ ht => ⟨s', rfl, Host.Outcome.next.inj ht ▸ h⟩

theorem respond (h : SameObservable s s') {r r' : Response} (hr : r = r') :
    SameOutcome (.next (s.respond r)) (.next (s'.respond r')) :=
  next { h with rspValid := rfl, rsp := congrArg Response.word hr }

theorem raise (h : SameObservable s s') (e : ErrorKind) :
    SameOutcome (.next (s.raise e)) (.next (s'.raise e)) := h.respond rfl

theorem setInputs (h : SameObservable s s') (rest : List PortIn) :
    SameObservable (s.setInputs rest) (s'.setInputs rest) := { h with inputs := rfl }

theorem resetRegisters (h : SameObservable s s') :
    SameObservable s.resetRegisters s'.resetRegisters where
  txValid := rfl
  rxCount := rfl
  cfgValid := rfl
  cfgCells := rfl
  cfgSensors := rfl
  cfgEnable := rfl
  rsmState := rfl
  rsmNext := rfl
  rsmExpected := rfl
  rsmCmd := rfl
  inputs := h.inputs
  rspValid := h.rspValid
  rsp := h.rsp
  tx _ _ _ := rfl
  rx _ _ _ := rfl
  acc _ _ _ := rfl

theorem assertReset (h : SameObservable s s') : SameObservable s.assertReset s'.assertReset :=
  { h.resetRegisters with rspValid := rfl, rsp := rfl }

theorem loadTx (h : SameObservable s s') (a b : Byte) :
    SameObservable (s.loadTx (requestPacket a b)) (s'.loadTx (requestPacket a b)) :=
  { h with
    txValid := rfl
    tx := fun _ i hi => by
      simp only [State.txByte, State.loadTx_tx]
      exact memRead_memWriteList_congr _ (fun _ hj => absurd hj (Nat.not_lt_zero _)) i (by simpa using hi) }

theorem clearRx (h : SameObservable s s') : SameObservable (s.setRxCount 0) (s'.setRxCount 0) :=
  { h with
    rxCount := rfl
    rx := fun i _ hi => absurd hi (Nat.not_lt_zero i) }

theorem pushByte (h : SameObservable s s') (v : Byte) :
    SameObservable (pushByte v s) (pushByte v s') := by
  by_cases hroom : s.rxCount.toNat < 13
  · rw [pushByte_room s v hroom, pushByte_room s' v (h.rxCount ▸ hroom)]
    exact
      { h with
        rxCount := congrArg (· + 1) h.rxCount
        rx := fun i hi hlt => by
          simp only [State.setRxCount_rxCount, rxCount_succ_toNat s (by omega)] at hlt
          simp only [State.rxByte, State.setRxCount_rx, State.storeRx_rx, memRead_memWrite, ← h.rxCount]
          split
          · rfl
          · exact h.rx i hi (by omega) }
  · have hfull := Nat.not_lt.mp hroom
    rw [pushByte_full s v hfull, pushByte_full s' v (h.rxCount ▸ hfull)]
    exact
      { h with
        rxCount := rfl
        rx := fun i hi _ => h.rx i hi (by omega) }

theorem openSession (h : SameObservable s s') (st : RsmState) (e : BitVec 5) (c : Byte) :
    SameObservable (s.setSession st 0 e c) (s'.setSession st 0 e c) :=
  { h with
    rsmState := rfl
    rsmNext := rfl
    rsmExpected := rfl
    rsmCmd := rfl
    acc := fun _ i hi => absurd hi (Nat.not_lt_zero i) }

theorem failSession (h : SameObservable s s') :
    SameObservable (s.setRsmState .failed) (s'.setRsmState .failed) :=
  { h with
    rsmState := rfl
    acc := fun hs => by rcases hs with hs | hs <;> cases hs }

theorem configure (h : SameObservable s s') (c : BitVec 6) (n : BitVec 5) (e : BitVec 9) :
    SameObservable (s.setConfig c n e) (s'.setConfig c n e) :=
  { h with
    cfgValid := rfl
    cfgCells := rfl
    cfgSensors := rfl
    cfgEnable := rfl }

/-! ### What the state shows -/

theorem rxReadable (h : SameObservable s s') : s.rxReadable = s'.rxReadable := by
  simp only [State.rxReadable, h.rxCount]

theorem accReadable (h : SameObservable s s') : s.accReadable = s'.accReadable := by
  simp only [State.accReadable, h.rsmNext]

theorem sessionResponse (h : SameObservable s s') : s.sessionResponse = s'.sessionResponse := by
  simp only [State.sessionResponse, h.rsmState, h.rsmNext, h.rsmExpected, h.rsmCmd]

theorem lookupResponse (h : SameObservable s s') (g : TelemetryGroup) :
    s.lookupResponse g = s'.lookupResponse g := by
  unfold State.lookupResponse State.enabled State.frameCount State.items
  rw [h.cfgEnable, h.cfgCells, h.cfgSensors]

section ThirteenBytes

variable (h : SameObservable s s') (hc : s.rxCount.toNat = 13)
include h hc

/-- A received packet of the right size is wholly readable. -/
theorem rxByte (i : Nat) (hi : i < 13) : s.rxByte i = s'.rxByte i := h.rx i hi (by omega)

theorem indexExpected : s.indexExpected = s'.indexExpected := by
  simp only [State.indexExpected, State.frameIndex, h.rxByte hc 4 (by decide), h.rsmNext]

theorem frameBytes : s.frameBytes = s'.frameBytes :=
  memReadList_congr fun i _ hi => h.rxByte hc i (by simp at hi; omega)

theorem acceptFrame (hs : s.rsmState = .await) (hn : s.rsmNext.toNat < 16) :
    SameObservable (acceptFrame s) (acceptFrame s') := by
  rw [acceptFrame_eq, acceptFrame_eq, ← h.rsmNext, ← h.rsmExpected, ← h.rsmState, ← h.frameBytes hc]
  exact
    { h with
      rsmState := rfl
      rsmNext := rfl
      rsmExpected := rfl
      acc := fun _ i hi => by
        have hbase : s'.frameBase = s.frameBase := by rw [frameBase_eq, frameBase_eq, h.rsmNext]
        simp only [rsmNext_succ_toNat s (by omega : s.rsmNext.toNat < 31)] at hi
        simp only [State.accByte, hbase]
        refine memRead_memWriteList_congr _ (fun j hj => ?_) i ?_
        · exact h.acc (.inl hs) j (frameBase_eq s ▸ hj)
        · rw [frameBase_eq, frameBytes_length]; omega }

end ThirteenBytes

/-! ### The instructions and the step -/

theorem execCksVerify (h : SameObservable s s') (select : Byte) :
    SameOutcome (execCksVerify select s) (execCksVerify select s') := by
  refine .ite Iff.rfl (fun _ => h.raise _) fun _ => .ite Iff.rfl (fun _ => ?_) fun _ => ?_
  · exact .ite (by rw [h.rxCount]) (fun hc => h.respond (verdict_congr (h.rxByte hc)))
      fun _ => h.raise _
  · exact .ite (by rw [h.txValid]) (fun hv => h.respond (verdict_congr (h.tx hv))) fun _ => h.raise _

theorem execPktDecode (h : SameObservable s s') : SameOutcome (execPktDecode s) (execPktDecode s') := by
  refine .ite (by rw [h.rxCount]) (fun hc => h.respond ?_) fun _ => h.raise _
  have byte := h.rxByte hc
  rw [byte 0 (by decide), byte 1 (by decide), byte 2 (by decide), byte 3 (by decide)]

theorem execRxRead (h : SameObservable s s') (a : Byte) :
    SameOutcome (execRxRead a s) (execRxRead a s') := by
  refine .ite (by rw [h.rxReadable]) (fun ha => h.respond ?_) fun _ => h.raise _
  obtain ⟨hcount, hsize⟩ := Nat.lt_min.mp ha
  rw [h.rx _ hsize hcount]

theorem execAccRead (h : SameObservable s s') (a : Byte) :
    SameOutcome (execAccRead a s) (execAccRead a s') := by
  refine .ite (by rw [h.rsmState, h.accReadable]) (fun ha => h.respond ?_) fun _ => h.raise _
  obtain ⟨hs, hlt⟩ := ha
  rw [h.acc (.inr hs) _ (Nat.lt_min.mp hlt).1]

theorem execRsmFeed (h : SameObservable s s') : SameOutcome (execRsmFeed s) (execRsmFeed s') := by
  refine .ite (by rw [h.rxCount]) (fun _ => h.raise _) fun hc => ?_
  replace hc : s.rxCount.toNat = 13 := not_not.mp hc
  rw [← h.rsmState]
  cases hs : s.rsmState with
  | idle => exact h.raise _
  | failed => exact h.raise _
  | complete => exact h.failSession.raise _
  | await =>
    have hbase : s.frameBase = s'.frameBase := by rw [frameBase_eq, frameBase_eq, h.rsmNext]
    refine .ite (by rw [h.indexExpected hc]) (fun _ => h.failSession.raise _) fun _ =>
      .ite (by rw [hbase]) (fun _ => .fault _ _) fun hb => ?_
    rw [frameBase_eq, Config.accSize_eq, Config.frameData_eq] at hb
    have ha := h.acceptFrame hc hs (by omega)
    exact ha.respond ha.sessionResponse

theorem exec (h : SameObservable s s') (i : Instr) : SameOutcome (exec i s) (exec i s') := by
  cases i with
  | sysNop => exact h.respond rfl
  | sysReset => exact h.resetRegisters.respond rfl
  | cksCompute a b c d => exact h.respond rfl
  | cksVerify a => exact h.execCksVerify a
  | pktEncode a b => exact (h.loadTx a b).respond rfl
  | txRead a =>
    exact .ite (by rw [h.txValid])
      (fun ⟨hv, ha⟩ => h.respond (by rw [h.tx hv _ ha])) fun _ => h.raise _
  | rxClear => exact h.clearRx.respond rfl
  | rxPush v => exact (h.pushByte v).respond (by rw [(h.pushByte v).rxCount])
  | pktDecode => exact h.execPktDecode
  | rxRead a => exact h.execRxRead a
  | rsmStart n c =>
    exact .ite Iff.rfl (fun _ => h.raise _) fun _ => (h.openSession _ _ _).respond rfl
  | rsmFeed => exact h.execRsmFeed
  | rsmStatus => exact h.respond h.sessionResponse
  | accRead a => exact h.execAccRead a
  | cfgSet a b c d =>
    exact .ite (by rw [h.cfgValid]) (fun _ => h.raise _) fun _ =>
      .ite Iff.rfl (fun _ => h.raise _) fun _ => (h.configure _ _ _).respond rfl
  | cfgRead => exact h.respond (by rw [h.cfgCells, h.cfgSensors, h.cfgEnable, h.cfgValid])
  | muxLookup a =>
    refine .ite (by rw [h.cfgValid]) (fun _ => ?_) fun _ => h.raise _
    cases groupOfId a with
    | none => exact h.raise _
    | some g => exact h.respond (h.lookupResponse g)

/-- The ports carry the same sample in both states. -/
theorem fetch (h : SameObservable s s') :
    ∃ e u u', fetch s = (e, u) ∧ fetch s' = (e, u') ∧ SameObservable u u' := by
  rcases fetch_cases s with ⟨hi, hf⟩ | ⟨p, rest, hi, hf⟩
  · exact ⟨_, s, s', hf, fetch_nil s' (h.inputs ▸ hi), h⟩
  · exact ⟨_, _, _, hf, fetch_cons s' p rest (h.inputs ▸ hi), h.setInputs rest⟩

theorem step (h : SameObservable s s') : SameOutcome (step s) (step s') := by
  obtain ⟨e, u, u', hf, hf', hu⟩ := h.fetch
  cases e with
  | quiet => simp only [Machine.step, hf, hf']; exact hu.next
  | reset => simp only [Machine.step, hf, hf']; exact hu.assertReset.next
  | command w =>
    simp only [Machine.step, hf, hf']
    cases decode w with
    | ok i => exact hu.exec i
    | error e => exact hu.raise _

end SameObservable

/-- Settles O49: agreement wherever a gate can admit a read goes through each update, and each answer is made of what the
states agree on. -/
theorem residueIsNeverObserved : Obligations.ResidueIsNeverObserved :=
  fun _ _ t h hstep => h.step t hstep

end Sys2Proof.Machine

/-! ## The reading operations (20_memory R57) -/

namespace Sys2Proof.Machine

/-- In `s`, and in `s` with any word on the response port, `f` answers one and the same word and changes nothing else. -/
def AnswersOnly (s : State) (f : State → Host.Outcome State Fault Refusal) : Prop :=
  ∃ w, f s = .next (s.answered w) ∧ ∀ v, f (s.answered v) = .next (s.answered w)

namespace AnswersOnly

variable {s : State} {f g : State → Host.Outcome State Fault Refusal}

/-- A response made of the registers alone. -/
theorem respond {r : State → Response} (hr : ∀ v, r (s.answered v) = r s) :
    AnswersOnly s fun t => .next (t.respond (r t)) :=
  ⟨(r s).word, rfl, fun v => congrArg (fun r' => Host.Outcome.next (s.respond r')) (hr v)⟩

theorem raise (e : ErrorKind) : AnswersOnly s fun t => .next (t.raise e) :=
  respond fun _ => rfl

/-- A test of the registers alone takes the same branch whatever word is on the response port. -/
theorem ite {c : State → Prop} [∀ t, Decidable (c t)] (hc : ∀ v, c (s.answered v) ↔ c s)
    (hf : AnswersOnly s f) (hg : AnswersOnly s g) :
    AnswersOnly s fun t => if c t then f t else g t := by
  by_cases h : c s
  · obtain ⟨w, hfirst, hagain⟩ := hf
    exact ⟨w, (if_pos h).trans hfirst, fun v => (if_pos ((hc v).mpr h)).trans (hagain v)⟩
  · obtain ⟨w, hfirst, hagain⟩ := hg
    exact ⟨w, (if_neg h).trans hfirst, fun v => (if_neg (mt (hc v).mp h)).trans (hagain v)⟩

theorem execCksVerify (select : Byte) : AnswersOnly s (execCksVerify select) :=
  .ite (fun _ => Iff.rfl) (raise _) <| .ite (fun _ => Iff.rfl)
    (.ite (fun _ => Iff.rfl) (respond fun _ => rfl) (raise _))
    (.ite (fun _ => Iff.rfl) (respond fun _ => rfl) (raise _))

theorem execTxRead (a : Byte) : AnswersOnly s (execTxRead a) :=
  .ite (fun _ => Iff.rfl) (respond fun _ => rfl) (raise _)

theorem execPktDecode : AnswersOnly s execPktDecode :=
  .ite (fun _ => Iff.rfl) (respond fun _ => rfl) (raise _)

theorem execRxRead (a : Byte) : AnswersOnly s (execRxRead a) :=
  .ite (fun _ => Iff.rfl) (respond fun _ => rfl) (raise _)

theorem execRsmStatus : AnswersOnly s execRsmStatus := respond fun _ => rfl

theorem execAccRead (a : Byte) : AnswersOnly s (execAccRead a) :=
  .ite (fun _ => Iff.rfl) (respond fun _ => rfl) (raise _)

theorem execCfgRead : AnswersOnly s execCfgRead := respond fun _ => rfl

theorem execMuxLookup (a : Byte) : AnswersOnly s (execMuxLookup a) := by
  refine .ite (fun _ => Iff.rfl) ?_ (raise _)
  cases groupOfId a with
  | none => exact raise _
  | some g => exact respond fun _ => rfl

/-- The second run finds the word of the first on the response port and answers it again. -/
theorem repeats (h : AnswersOnly s f) :
    ∃ w, f s = .next (s.answered w) ∧ f (s.answered w) = .next (s.answered w) :=
  let ⟨w, hfirst, hagain⟩ := h
  ⟨w, hfirst, hagain w⟩

end AnswersOnly

/-- Settles O46: every test and every answer of the eight operations is made of registers, which an answer leaves. -/
theorem readsHaveNoSideEffect : Obligations.ReadsHaveNoSideEffect := by
  rintro i s (⟨a, rfl⟩ | ⟨a, rfl⟩ | ⟨a, rfl⟩ | rfl | ⟨a, rfl⟩ | rfl | rfl | ⟨a, rfl⟩)
  · exact (AnswersOnly.execTxRead a).repeats
  · exact (AnswersOnly.execRxRead a).repeats
  · exact (AnswersOnly.execAccRead a).repeats
  · exact AnswersOnly.execPktDecode.repeats
  · exact (AnswersOnly.execCksVerify a).repeats
  · exact AnswersOnly.execRsmStatus.repeats
  · exact AnswersOnly.execCfgRead.repeats
  · exact (AnswersOnly.execMuxLookup a).repeats

end Sys2Proof.Machine

/-! ## The decoder and the encoder (30_encoding R71, R73, R75, R76) -/

namespace Sys2Proof

/-- The same operation with the operand bytes of a command word: the fields the operation map gives it
(30_encoding R73). `decode_of_fieldOp` ties it to `decode`. -/
def Instr.withFields (i : Instr) (w : Word) : Instr :=
  match i with
  | .sysNop => .sysNop
  | .sysReset => .sysReset
  | .cksCompute _ _ _ _ => .cksCompute (fieldA w) (fieldB w) (fieldC w) (fieldD w)
  | .cksVerify _ => .cksVerify (fieldA w)
  | .pktEncode _ _ => .pktEncode (fieldA w) (fieldB w)
  | .txRead _ => .txRead (fieldA w)
  | .rxClear => .rxClear
  | .rxPush _ => .rxPush (fieldA w)
  | .pktDecode => .pktDecode
  | .rxRead _ => .rxRead (fieldA w)
  | .rsmStart _ _ => .rsmStart (fieldA w) (fieldB w)
  | .rsmFeed => .rsmFeed
  | .rsmStatus => .rsmStatus
  | .accRead _ => .accRead (fieldA w)
  | .cfgSet _ _ _ _ => .cfgSet (fieldA w) (fieldB w) (fieldC w) (fieldD w)
  | .cfgRead => .cfgRead
  | .muxLookup _ => .muxLookup (fieldA w)

section Decoder

variable {w : Word} {i : Instr}

/-- Decoding is by the whole `op` byte (30_encoding R73). -/
theorem decode_of_fieldOp (h : fieldOp w = opcode i) : decode w = .ok (i.withFields w) := by
  unfold decode
  rw [h]
  cases i <;> rfl

/-- What the decoder answers has the `op` byte of the word and the word's operand bytes. -/
theorem fields_of_decode (h : decode w = .ok i) : fieldOp w = opcode i ∧ i.withFields w = i := by
  unfold decode at h
  split at h <;> cases h <;> exact ⟨‹_›, rfl⟩

/-- The operands of an encoded instruction stand in the fields the decoder reads. -/
theorem withFields_encode (i : Instr) : i.withFields (encode i) = i := by
  cases i <;> simp [Instr.withFields, encode]

theorem fieldOp_encode (i : Instr) : fieldOp (encode i) = opcode i := by
  cases i <;> exact fieldOp_packWord ..

/-- Encoding the fields of a word keeps the bits the operation uses and clears the rest (30_encoding R75, R78). -/
theorem encode_withFields (h : fieldOp w = opcode i) :
    encode (i.withFields w) = w &&& usedBits i := by
  rw [← packWord_fields w, h]
  cases i <;> simp [Instr.withFields, encode, usedBits, opcode, mask_op, mask_opA, mask_opAB, mask_all,
    packWord_and]

/-- A word under the mask of the operation map is its `op` byte, and no operand (30_encoding R73). -/
theorem fieldOp_of_mask {op : Byte} (h : w &&& 0xFF00000000#40 = packWord op 0#8 0#8 0#8 0#8) :
    fieldOp w = op := by
  rw [← packWord_fields w, mask_op, packWord_and, packWord_inj, and_byte_ones] at h
  exact h.1

/-- A word selects a row of the operation map by the row's match (30_encoding R73). -/
theorem decode_of_mask (i : Instr) (h : w &&& 0xFF00000000#40 = packWord (opcode i) 0#8 0#8 0#8 0#8) :
    decode w = .ok (i.withFields w) :=
  decode_of_fieldOp (fieldOp_of_mask h)

end Decoder

/-- Settles O9: the encoder puts the `op` byte and each operand where the decoder reads them. -/
theorem decodeOfEncodeIsTheInstruction : Obligations.DecodeOfEncodeIsTheInstruction := fun i => by
  rw [decode_of_fieldOp (fieldOp_encode i), withFields_encode]

/-- Settles O10: a decoded instruction is made of the fields of its word. -/
theorem encodeOfDecodeClearsUnusedFields : Obligations.EncodeOfDecodeClearsUnusedFields := by
  intro w i h
  obtain ⟨hop, hfields⟩ := fields_of_decode h
  rw [← encode_withFields hop, hfields]

/-- Settles O8: each match is the `op` byte of its row with zero operands. -/
theorem matchAndMaskSelectTheOperation : Obligations.MatchAndMaskSelectTheOperation := fun _ =>
  ⟨decode_of_mask .sysNop, decode_of_mask .sysReset, decode_of_mask (.cksCompute 0 0 0 0),
    decode_of_mask (.cksVerify 0), decode_of_mask (.pktEncode 0 0), decode_of_mask (.txRead 0),
    decode_of_mask .rxClear, decode_of_mask (.rxPush 0), decode_of_mask .pktDecode,
    decode_of_mask (.rxRead 0), decode_of_mask (.rsmStart 0 0), decode_of_mask .rsmFeed,
    decode_of_mask .rsmStatus, decode_of_mask (.accRead 0), decode_of_mask (.cfgSet 0 0 0 0),
    decode_of_mask .cfgRead, decode_of_mask (.muxLookup 0)⟩

/-- Settles O7: the fields of a packed word, and a word from its fields. -/
theorem fiveBytesMakeAWord : Obligations.FiveBytesMakeAWord :=
  ⟨fun op a b c d => ⟨fieldOp_packWord op a b c d, fieldA_packWord op a b c d, fieldB_packWord op a b c d,
    fieldC_packWord op a b c d, fieldD_packWord op a b c d⟩, fun w => (packWord_fields w).symm⟩

/-- Settles O11: five words, each decoded. -/
theorem writtenOutWordsDecode : Obligations.WrittenOutWordsDecode := ⟨rfl, rfl, rfl, rfl, rfl⟩

end Sys2Proof

/-! ## The response to a command word (30_encoding R72, R76, R80) -/

namespace Sys2Proof.Machine

/-- A word that is no operation is answered before any operand is looked at (30_encoding R76). -/
theorem step_of_rejected {s : State} {p : PortIn} {rest : List PortIn} {e : DecodeError}
    (hi : s.inputs = p :: rest) (hr : p.rst = false) (hv : p.cmdValid = true)
    (hd : decode p.cmd = .error e) : step s = .next ((s.setInputs rest).raise .usageError) := by
  simp only [step, fetch_cons s p rest hi, portEvent_command p hr hv, hd]
  rfl

/-- The `op` byte of every operation is one of the seventeen of 30_encoding R73. -/
theorem opcode_mem_assigned (i : Instr) : opcode i ∈ [0x00#8, 0x01#8, 0x10#8, 0x11#8, 0x20#8, 0x21#8,
    0x22#8, 0x23#8, 0x24#8, 0x25#8, 0x30#8, 0x31#8, 0x32#8, 0x33#8, 0x40#8, 0x41#8, 0x42#8] := by
  cases i <;> simp [opcode]

/-- Settles O5: a word that decodes has an assigned `op` byte, and every other word is rejected. -/
theorem unassignedOpcodeAnswersUsageError : Obligations.UnassignedOpcodeAnswersUsageError := by
  intro s p rest hi hr hv hop
  cases hd : decode p.cmd with
  | ok i =>
    have hassigned : p.cmd.extractLsb' 32 8 = opcode i := (fields_of_decode hd).1
    exact absurd (hassigned ▸ opcode_mem_assigned i) hop
  | error e =>
    rw [step_of_rejected hi hr hv hd, raise_usageError]
    rfl

/-- A response is on the port: its status is one the block reports, and an error comes with zero data
(30_encoding R72, 60_exceptions R210). -/
def HasResponse (t : State) : Prop :=
  t.rspValid = true ∧ t.status ∈ [0x00#8, 0x02#8, 0x04#8, 0x05#8, 0x06#8]
    ∧ (t.status ≠ 0x00#8 → t.rsp = packWord t.status 0x00#8 0x00#8 0x00#8 0x00#8)

section HasResponse

variable {s t : State} {i : Instr}

theorem hasResponse_ok {r : Response} (h : r.status = 0#8) : HasResponse (s.respond r) := by
  have hstatus : (s.respond r).status = 0#8 := (status_of_rsp rfl).trans h
  exact ⟨rfl, by simp [hstatus], fun hne => absurd hstatus hne⟩

/-- The two kinds reserved for the host are the ones the block never reports (60_exceptions R211, R213). -/
theorem hasResponse_raise {e : ErrorKind} (ht : e ≠ .transportError) (hc : e ≠ .checksumError) :
    HasResponse (s.raise e) := by
  have hstatus : (s.raise e).status = e.code := status_of_rsp rfl
  refine ⟨rfl, ?_, fun _ => by rw [hstatus]; rfl⟩
  rw [hstatus]
  cases e with
  | transportError => exact absurd rfl ht
  | checksumError => exact absurd rfl hc
  | frameFormatError => decide
  | sequenceError => decide
  | configurationError => decide
  | usageError => decide

/-- Every instruction that answers a next state leaves a response on the port. -/
theorem exec_hasResponse (h : exec i s = .next t) : HasResponse t := by
  rcases exec_cases i s t h with ⟨u, r, rfl, hr⟩ | ⟨e, he, rfl⟩ | ⟨_, _, rfl⟩
  · exact hasResponse_ok hr
  · rcases he with rfl | rfl | rfl | ⟨rfl, _⟩ <;> exact hasResponse_raise nofun nofun
  · exact hasResponse_raise nofun nofun

end HasResponse

/-- A feed stops only in `AWAIT` with the frame's place beyond `ACC` (42_frame_reassembler R156). -/
theorem execRsmFeed_next {s : State} (h : s.rsmState = .await → s.rsmNext.toNat < 16) :
    ∃ t, execRsmFeed s = .next t := by
  unfold execRsmFeed
  split
  · exact ⟨_, rfl⟩
  · split
    · exact ⟨_, rfl⟩
    · exact ⟨_, rfl⟩
    · exact ⟨_, rfl⟩
    · next hs =>
      have hb : ¬Config.accSize < s.frameBase + Config.frameData := by
        have := h hs
        rw [frameBase_eq, Config.accSize_eq, Config.frameData_eq]
        omega
      rw [if_neg hb]
      split <;> exact ⟨_, rfl⟩

/-- No instruction stops in a state that meets the invariants (70_reset_and_hazards R257). -/
theorem Inv.exec_next {s : State} (h : Inv s) (i : Instr) : ∃ t, exec i s = .next t := by
  by_cases hi : i = .rsmFeed
  · subst hi
    exact execRsmFeed_next fun hs => lt_of_lt_of_le (h.await_next hs) h.expected_le
  · exact exec_next_of_ne_feed i s hi

/-- Settles O6: a decoded word is executed and answered, and any other is answered by the rejection. -/
theorem everyCommandGetsOneResponse : Obligations.EveryCommandGetsOneResponse := by
  intro s p rest h hi hr hv
  cases hd : decode p.cmd with
  | ok i =>
    obtain ⟨t, ht⟩ := (h.setInputs rest).exec_next i
    exact ⟨t, (step_of_command hi hr hv hd).trans ht, (onlyTheListedOperationsWrite i _ t ht).1,
      exec_hasResponse ht⟩
  | error e => exact ⟨_, step_of_rejected hi hr hv hd, rfl, hasResponse_raise nofun nofun⟩

end Sys2Proof.Machine

/-! ## Loading the receive buffer (30_encoding R79) -/

namespace Sys2Proof.Machine

section PushByte

variable (v : Byte) {s : State}

/-- A push counts, up to 14, which means "too many" (10_state R24). -/
theorem pushByte_rxCount_toNat (h : s.rxCount.toNat ≤ 14) :
    (pushByte v s).rxCount.toNat = min (s.rxCount.toNat + 1) 14 := by
  by_cases hroom : s.rxCount.toNat < 13
  · rw [pushByte_room s v hroom, State.setRxCount_rxCount, rxCount_succ_toNat s (by omega)]
    omega
  · rw [pushByte_full s v (Nat.not_lt.mp hroom), State.setRxCount_rxCount]
    show 14 = min (s.rxCount.toNat + 1) 14
    omega

/-- A push with room stores the byte at index `rx_count`. -/
theorem pushByte_rxByte_self (h : s.rxCount.toNat < 13) :
    (pushByte v s).rxByte s.rxCount.toNat = v := by
  rw [pushByte_room s v h]
  exact (memRead_memWrite ..).trans (if_pos rfl)

/-- A push leaves every other index alone. -/
theorem pushByte_rxByte_of_ne {i : Nat} (h : i ≠ s.rxCount.toNat) :
    (pushByte v s).rxByte i = s.rxByte i := by
  by_cases hroom : s.rxCount.toNat < 13
  · rw [pushByte_room s v hroom]
    exact (memRead_memWrite ..).trans (if_neg h)
  · rw [pushByte_full s v (Nat.not_lt.mp hroom)]
    rfl

end PushByte

/-- `t` is `s` after one `RX.PUSH` for each byte of the list: the bytes stand from index `rx_count` of `s` on, as far as
there is room. -/
structure Pushed (bytes : List Byte) (s t : State) : Prop where
  count : t.rxCount.toNat = min (s.rxCount.toNat + bytes.length) 14
  stored : ∀ i v, s.rxCount.toNat + i < 13 → bytes[i]? = some v → t.rxByte (s.rxCount.toNat + i) = v
  kept : ∀ i, i < s.rxCount.toNat → t.rxByte i = s.rxByte i
  frame : t = { s with rx := t.rx, rxCount := t.rxCount, rspValid := t.rspValid, rsp := t.rsp }

section Pushed

variable {s t : State}

theorem Pushed.nil (h : s.rxCount.toNat ≤ 14) : Pushed [] s s where
  count := (min_eq_left h).symm
  stored := nofun
  kept _ _ := rfl
  frame := rfl

/-- The first byte goes to index `rx_count`, the others after it. -/
theorem Pushed.cons {v : Byte} {vs : List Byte} {r : Response} (h : s.rxCount.toNat ≤ 14)
    (hp : Pushed vs ((pushByte v s).respond r) t) : Pushed (v :: vs) s t := by
  obtain ⟨hcount, hstored, hkept, hframe⟩ := hp
  have hnext := pushByte_rxCount_toNat v h
  rw [State.respond_rxCount, hnext] at hcount hstored hkept
  refine ⟨?_, fun i u hi hu => ?_, fun i hi => ?_, ?_⟩
  · rw [hcount, List.length_cons]
    omega
  · cases i with
    | zero =>
      obtain rfl : v = u := by simpa using hu
      rw [Nat.add_zero, hkept _ (by omega)]
      exact pushByte_rxByte_self v hi
    | succ i =>
      have hindex : min (s.rxCount.toNat + 1) 14 + i = s.rxCount.toNat + (i + 1) := by omega
      rw [← hindex]
      exact hstored i u (by omega) (by simpa using hu)
  · rw [hkept i (by omega)]
    exact pushByte_rxByte_of_ne v (Nat.ne_of_lt hi)
  · rw [hframe, pushByte_frame]
    rfl

/-- A list of pushes answers a next state, with a response on the port if there was one before. -/
theorem execAll_rxPush (bytes : List Byte) (s : State) (h : s.rxCount.toNat ≤ 14)
    (hv : s.rspValid = true) :
    ∃ t, execAll (bytes.map .rxPush) s = .next t ∧ Pushed bytes s t ∧ t.rspValid = true := by
  induction bytes generalizing s with
  | nil => exact ⟨s, rfl, .nil h, hv⟩
  | cons v vs ih =>
    have hnext := pushByte_rxCount_toNat v h
    obtain ⟨t, ht, hp, hv⟩ := ih ((pushByte v s).respond { r0 := zext8 (pushByte v s).rxCount })
      (by rw [State.respond_rxCount]; omega) rfl
    exact ⟨t, ht, hp.cons h, hv⟩

end Pushed

/-- Settles O26: the pushes of the list on the buffer that `RX.CLEAR` emptied. -/
theorem loadFillsTheReceiveBuffer : Obligations.LoadFillsTheReceiveBuffer := by
  intro bytes s
  obtain ⟨t, ht, hp, hv⟩ := execAll_rxPush bytes ((s.setRxCount 0).respond {}) (Nat.zero_le _) rfl
  have hzero : ((s.setRxCount 0).respond {}).rxCount.toNat = 0 := rfl
  obtain ⟨hcount, hstored, _, hframe⟩ := hp
  simp only [hzero, Nat.zero_add] at hcount hstored
  refine ⟨t, ht, hcount, hstored, ?_⟩
  rw [hv] at hframe
  exact hframe

end Sys2Proof.Machine

/-! ## Operands outside their range (30_encoding R73) -/

namespace Sys2Proof.Machine

section OutOfRange

variable {a : Byte} (s : State)

/-- 40_checksum_codec R102: a select that names no buffer. -/
theorem execCksVerify_of_two_le (h : 2 ≤ a.toNat) :
    execCksVerify a s = .next (s.answered 0x0600000000#40) := by
  rw [← raise_usageError]
  exact if_pos h

/-- The gate of 20_memory R53: the index is not in `TXBUF`. -/
theorem execTxRead_of_size_le (h : 13 ≤ a.toNat) :
    execTxRead a s = .next (s.answered 0x0600000000#40) := by
  rw [← raise_usageError]
  exact if_neg fun hg => Nat.not_lt.mpr h hg.2

/-- The gate of 20_memory R54: the index is not in `RXBUF`. -/
theorem execRxRead_of_size_le (h : 13 ≤ a.toNat) :
    execRxRead a s = .next (s.answered 0x0600000000#40) := by
  rw [← raise_usageError]
  exact if_neg fun hg => Nat.not_lt.mpr h (lt_of_lt_of_le hg (Nat.min_le_right ..))

/-- 20_memory R52: the offset is not in `ACC`. -/
theorem execAccRead_of_size_le (h : 112 ≤ a.toNat) :
    execAccRead a s = .next (s.answered 0x0600000000#40) := by
  rw [← raise_usageError]
  exact if_neg fun hg => Nat.not_lt.mpr h (lt_of_lt_of_le hg.2 (Nat.min_le_right ..))

/-- 42_frame_reassembler R151: more frames than a legal configuration can need. -/
theorem execRsmStart_of_maxFrames_lt (c : Byte) (h : 16 < a.toNat) :
    execRsmStart a c s = .next (s.answered 0x0500000000#40) := by
  rw [← raise_configurationError]
  exact if_pos h

/-- 43_command_dispatch_mux R183: the block is configured already. -/
theorem execCfgSet_of_cfgValid {s : State} (a b c d : Byte) (h : s.cfgValid = true) :
    execCfgSet a b c d s = .next (s.answered 0x0600000000#40) := by
  rw [← raise_usageError]
  exact if_pos h

/-- 43_command_dispatch_mux R183: a count or an enable bit beyond its range. -/
theorem execCfgSet_of_outOfRange {s : State} {a b d : Byte} (c : Byte) (hv : s.cfgValid = false)
    (h : 48 < a.toNat ∨ 16 < b.toNat ∨ 2 ≤ d.toNat) :
    execCfgSet a b c d s = .next (s.answered 0x0500000000#40) := by
  rw [← Nat.not_lt, ← undefinedEnableBits_eq_zero_iff] at h
  rw [← raise_configurationError]
  exact (if_neg (by simp [hv])).trans (if_pos h)

/-- 43_command_dispatch_mux R185: an id that names no group is refused, configured or not. -/
theorem execMuxLookup_of_nGroups_le (h : 9 ≤ a.toNat) :
    execMuxLookup a s = .next (s.answered 0x0600000000#40) := by
  rw [← raise_usageError, execMuxLookup, groupOfId_eq_none a h]
  exact ite_self _

end OutOfRange

/-- The range checks of `CFG.SET`, one of which fails (30_encoding R73). -/
theorem cfgSet_outOfRange {a b c d : Byte} (h : (Instr.cfgSet a b c d).wellFormed = false) :
    48 < a.toNat ∨ 16 < b.toNat ∨ 2 ≤ d.toNat := by
  rcases Bool.and_eq_false_iff.mp h with hcounts | hbit
  · rcases Bool.and_eq_false_iff.mp hcounts with hcells | hsensors
    · exact .inl (Nat.not_le.mp (of_decide_eq_false hcells))
    · exact .inr (.inl (Nat.not_le.mp (of_decide_eq_false hsensors)))
  · exact .inr (.inr (Nat.not_lt.mp (of_decide_eq_false hbit)))

/-- Settles O50: seven operations have a range, and each refuses what lies outside it. -/
theorem operandOutOfRangeIsAnError : Obligations.OperandOutOfRangeIsAnError := by
  intro i s h
  cases i with
  | cksVerify a => exact .inr (execCksVerify_of_two_le s (Nat.not_lt.mp (of_decide_eq_false h)))
  | txRead a => exact .inr (execTxRead_of_size_le s (Nat.not_lt.mp (of_decide_eq_false h)))
  | rxRead a => exact .inr (execRxRead_of_size_le s (Nat.not_lt.mp (of_decide_eq_false h)))
  | rsmStart n c => exact .inl (execRsmStart_of_maxFrames_lt s c (Nat.not_le.mp (of_decide_eq_false h)))
  | accRead a => exact .inr (execAccRead_of_size_le s (Nat.not_lt.mp (of_decide_eq_false h)))
  | cfgSet a b c d =>
    cases hv : s.cfgValid with
    | true => exact .inr (execCfgSet_of_cfgValid a b c d hv)
    | false => exact .inl (execCfgSet_of_outOfRange c hv (cfgSet_outOfRange h))
  | muxLookup a => exact .inr (execMuxLookup_of_nGroups_le s (Nat.not_lt.mp (of_decide_eq_false h)))
  | sysNop | sysReset | cksCompute | pktEncode | rxClear | rxPush | pktDecode | rsmFeed | rsmStatus
  | cfgRead => cases h

end Sys2Proof.Machine

/-! ## The checksum function (40_checksum_codec R100, R105) -/

namespace Sys2Proof.Machine

/-- The order of the bytes does not matter (40_checksum_codec R105). -/
theorem sum8_perm {xs ys : List Byte} (h : xs.Perm ys) : sum8 xs = sum8 ys := by
  unfold sum8
  rw [(h.map BitVec.toNat).sum_eq]

/-- An 8-bit accumulator that drops each carry, from any start (40_checksum_codec R105). -/
theorem foldl_add_eq_add_sum8 (acc : Byte) (xs : List Byte) :
    xs.foldl (fun acc x => acc + x) acc = acc + sum8 xs := by
  induction xs generalizing acc with
  | nil => exact (BitVec.add_zero acc).symm
  | cons x xs ih => rw [List.foldl_cons, ih, sum8_cons, BitVec.add_assoc]

/-- The unreduced sum is at most 255 for each byte (40_checksum_codec R105). -/
theorem sum_toNat_le (xs : List Byte) : (xs.map BitVec.toNat).sum ≤ xs.length * 255 := by
  have hbyte : ∀ n ∈ xs.map BitVec.toNat, n ≤ 255 := fun n hn => by
    obtain ⟨x, _, rfl⟩ := List.mem_map.mp hn
    exact Nat.le_of_lt_succ x.isLt
  simpa using List.sum_le_card_nsmul _ 255 hbyte

/-- Settles O14: each law of the sum, and the bound of 255 a byte at the two lengths the block adds. -/
theorem sumLawsOfTheChecksum : Obligations.SumLawsOfTheChecksum := by
  refine ⟨sum8_toNat, rfl, fun _ _ => sum8_perm, fun xs => ?_, fun xs => ?_, fun xs hlen => ?_,
    fun xs hlen => ?_⟩
  · simp [sum8]
  · rw [foldl_add_eq_add_sum8, BitVec.zero_add]
  · exact (sum_toNat_le xs).trans_eq (by rw [hlen])
  · exact (sum_toNat_le xs).trans_eq (by rw [hlen])

/-- Settles O15: the response is `sum8` of the four operands. -/
theorem computeAnswersTheFourByteSum : Obligations.ComputeAnswersTheFourByteSum := by
  intro a b c d s
  have hsum : sum8 [a, b, c, d] = BitVec.ofNat 8 ((a.toNat + b.toNat + c.toNat + d.toNat) % 256) := by
    simp [sum8, Nat.add_assoc]
  rw [← hsum]
  rfl

end Sys2Proof.Machine

/-! ## The answers of `CKS.VERIFY` (40_checksum_codec R102, R103) -/

namespace Sys2Proof.Machine

/-- The unreduced sum of the twelve bytes the checksum covers. -/
def coveredSum (b : Buffer) (m : Memory) : Nat :=
  ((List.range 12).map fun k => (memRead b m k).toNat).sum

/-- The word `CKS.VERIFY` answers on a buffer it may look at; `respond_verdict_eq` ties it to `verdict`. -/
def verdictWord (b : Buffer) (m : Memory) : Word :=
  packWord 0x00#8 (if coveredSum b m % 256 = (memRead b m 12).toNat then 0x01#8 else 0x00#8)
    (BitVec.ofNat 8 (coveredSum b m)) (memRead b m 12) 0x00#8

theorem respond_verdict_eq (s : State) (b : Buffer) (m : Memory) :
    s.respond (verdict b m) = s.answered (verdictWord b m) :=
  respond_verdict s b m

section VerifyEquations

variable {s : State}

theorem execCksVerify_received (h : s.rxCount.toNat = 13) :
    execCksVerify 0#8 s = .next (s.answered (verdictWord .rx s.rx)) := by
  rw [← respond_verdict_eq]
  exact if_pos h

theorem execCksVerify_of_rxCount_ne (h : s.rxCount.toNat ≠ 13) :
    execCksVerify 0#8 s = .next (s.answered 0x0200000000#40) := by
  rw [← raise_frameFormatError]
  exact if_neg h

theorem execCksVerify_built (h : s.txValid = true) :
    execCksVerify 1#8 s = .next (s.answered (verdictWord .tx s.tx)) := by
  rw [← respond_verdict_eq]
  exact if_pos h

theorem execCksVerify_of_not_txValid (h : s.txValid = false) :
    execCksVerify 1#8 s = .next (s.answered 0x0600000000#40) := by
  rw [← raise_usageError]
  exact if_neg (ne_true_of_eq_false h)

end VerifyEquations

/-- Settles O16: one equation for each branch of R102. -/
theorem verifyAnswersTheVerdict : Obligations.VerifyAnswersTheVerdict := by
  intro a s
  refine ⟨execCksVerify_of_two_le s, fun ha hc => ?_, fun ha hv => ?_, fun ha hc => ?_, fun ha hv => ?_⟩
  · obtain rfl : a = 0#8 := BitVec.eq_of_toNat_eq ha
    exact execCksVerify_of_rxCount_ne hc
  · obtain rfl : a = 1#8 := BitVec.eq_of_toNat_eq ha
    exact execCksVerify_of_not_txValid hv
  · obtain rfl : a = 0#8 := BitVec.eq_of_toNat_eq ha
    exact execCksVerify_received hc
  · obtain rfl : a = 1#8 := BitVec.eq_of_toNat_eq ha
    exact execCksVerify_built hv

end Sys2Proof.Machine

/-! ## What the checksum detects (40_checksum_codec R106) -/

namespace Sys2Proof.Machine

section Verdict

variable {b : Buffer} {m : Memory}

/-- A packet that verifies is answered with its checksum twice. -/
theorem verdictWord_of_verifies (h : coveredSum b m % 256 = (memRead b m 12).toNat) :
    verdictWord b m = packWord 0x00#8 0x01#8 (memRead b m 12) (memRead b m 12) 0x00#8 := by
  have hsum : BitVec.ofNat 8 (coveredSum b m) = memRead b m 12 :=
    BitVec.eq_of_toNat_eq ((BitVec.toNat_ofNat ..).trans h)
  rw [verdictWord, if_pos h, hsum]

/-- R0 is 1 for a packet that verifies only. -/
theorem verifies_of_r0 {s : State} (h : (s.answered (verdictWord b m)).r0 = 0x01#8) :
    coveredSum b m % 256 = (memRead b m 12).toNat := by
  rw [r0_of_rsp rfl] at h
  by_contra hne
  rw [if_neg hne] at h
  exact absurd h (by decide)

/-- The verdict depends on the covered bytes through their sum only. -/
theorem verdictWord_congr {m' : Memory} (hsum : coveredSum b m' = coveredSum b m)
    (hstored : memRead b m' 12 = memRead b m 12) : verdictWord b m' = verdictWord b m := by
  rw [verdictWord, hsum, hstored, verdictWord]

/-- A write to a covered byte moves the sum by the difference of the values. -/
theorem coveredSum_memWrite_add {i : Nat} (v : Byte) (hi : i < 12) :
    coveredSum b (memWrite m i v) + (memRead b m i).toNat = coveredSum b m + v.toNat := by
  have := sum_range_replace (fun k => (memRead b m k).toNat) 12 i v.toNat hi
  simpa only [coveredSum, memRead_memWrite, apply_ite BitVec.toNat] using this

/-- A write beyond the covered bytes leaves the sum. -/
theorem coveredSum_memWrite_of_le {i : Nat} (v : Byte) (hi : 12 ≤ i) :
    coveredSum b (memWrite m i v) = coveredSum b m :=
  congrArg List.sum <| List.map_congr_left fun k hk => by
    have hne : k ≠ i := by simp at hk; omega
    rw [memRead_memWrite, if_neg hne]

/-- One changed byte, covered or the checksum itself, and the packet no longer verifies: the change of the sum is
smaller than 256. -/
theorem not_verifies_memWrite {i : Nat} {v : Byte} (hi : i < 13) (hv : v ≠ memRead b m i)
    (h : coveredSum b m % 256 = (memRead b m 12).toNat) :
    coveredSum b (memWrite m i v) % 256 ≠ (memRead b (memWrite m i v) 12).toNat := by
  have hne : v.toNat ≠ (memRead b m i).toNat := mt BitVec.eq_of_toNat_eq hv
  rw [memRead_memWrite]
  by_cases hcovered : i < 12
  · have hsum := coveredSum_memWrite_add (b := b) (m := m) v hcovered
    have hnew := v.isLt
    have hold := (memRead b m i).isLt
    rw [if_neg (Nat.ne_of_gt hcovered)]
    omega
  · obtain rfl : i = 12 := by omega
    rw [coveredSum_memWrite_of_le v (Nat.le_refl 12), if_pos rfl, h]
    exact hne.symm

/-- Two covered bytes swapped: what one write adds the other takes away. -/
theorem coveredSum_swap {i j : Nat} (hi : i < 12) (hj : j < 12) :
    coveredSum b (memWrite (memWrite m i (memRead b m j)) j (memRead b m i)) = coveredSum b m := by
  have hfirst := coveredSum_memWrite_add (b := b) (m := m) (memRead b m j) hi
  have hsecond := coveredSum_memWrite_add (b := b) (m := memWrite m i (memRead b m j)) (memRead b m i) hj
  rw [memRead_memWrite, ite_self] at hsecond
  omega

theorem verdictWord_swap {i j : Nat} (hi : i < 12) (hj : j < 12) :
    verdictWord b (memWrite (memWrite m i (memRead b m j)) j (memRead b m i)) = verdictWord b m := by
  refine verdictWord_congr (coveredSum_swap hi hj) ?_
  rw [memRead_memWrite, if_neg (Nat.ne_of_gt hj), memRead_memWrite, if_neg (Nat.ne_of_gt hi)]

end Verdict

/-- Settles O17: the request in `TXBUF` carries the checksum of its first twelve bytes, which `PKT.ENCODE` answered. -/
theorem encodedRequestVerifies : Obligations.EncodedRequestVerifies := by
  intro a b s
  refine ⟨_, rfl, ?_⟩
  obtain ⟨_, _, _, hverifies⟩ := loadTx_request s a b
  have hstored : memRead .tx (s.loadTx (requestPacket a b)).tx 12 = requestChecksum a b :=
    loadTx_requestPacket_byte s a b 12 (by decide)
  have hword := verdictWord_of_verifies hverifies.symm
  rw [hstored] at hword
  rw [r0_of_rsp rfl, ← hword]
  exact execCksVerify_built rfl

/-- Settles O18: the changed packet does not verify, and the operation answers that as data. -/
theorem singleByteChangeIsDetected : Obligations.SingleByteChangeIsDetected := by
  intro s t i v hc hi hv hexec hr0
  obtain rfl := Host.Outcome.next.inj ((execCksVerify_received hc).symm.trans hexec)
  have hchanged := not_verifies_memWrite hi hv (verifies_of_r0 hr0)
  exact ⟨_, execCksVerify_received hc, status_of_rsp rfl, (r0_of_rsp rfl).trans (if_neg hchanged)⟩

/-- Settles O19: the sum does not see the order of the covered bytes, and the size check looks at no byte. -/
theorem swappedBytesAreNotDetected : Obligations.SwappedBytesAreNotDetected := by
  intro s t i j hi hj hexec
  by_cases hc : s.rxCount.toNat = 13
  · obtain rfl := Host.Outcome.next.inj ((execCksVerify_received hc).symm.trans hexec)
    exact ⟨_, execCksVerify_received hc, verdictWord_swap hi hj⟩
  · obtain rfl := Host.Outcome.next.inj ((execCksVerify_of_rxCount_ne hc).symm.trans hexec)
    exact ⟨_, execCksVerify_of_rxCount_ne hc, rfl⟩

end Sys2Proof.Machine

/-! ## The answers of the packet framer (41_packet_framer R120 to R126) -/

namespace Sys2Proof.Machine

section FramerAnswers

variable (s : State)

@[simp] theorem State.answered_txByte (w : Word) (i : Nat) : (s.answered w).txByte i = s.txByte i := rfl

/-- A read behind a gate (20_memory R53 to R55): the data while the gate is open, a `UsageError` otherwise, and either
way nothing but an answer. -/
theorem gatedRead_eq (gate : Prop) [Decidable gate] (r : Response) :
    (if gate then .next (s.respond r) else .next (s.raise .usageError) : Host.Outcome State Fault Refusal)
      = .next (s.answered (if gate then packWord r.status r.r0 r.r1 r.r2 r.r3 else 0x0600000000#40)) := by
  rw [raise_usageError, respond_eq]
  split <;> rfl

/-- The last byte of a loaded request is its checksum. -/
theorem loadTx_requestChecksum (a b : Byte) :
    (s.loadTx (requestPacket a b)).txByte 12 = requestChecksum a b :=
  loadTx_requestPacket_byte s a b 12 (by decide)

/-- `PKT.ENCODE` answers the last byte of the request it has loaded (41_packet_framer R120). -/
theorem execPktEncode_eq (a b : Byte) :
    execPktEncode a b s = .next ((s.loadTx (requestPacket a b)).answered
      (packWord 0x00#8 ((s.loadTx (requestPacket a b)).txByte 12) 0x00#8 0x00#8 0x00#8)) := by
  rw [loadTx_requestChecksum]
  rfl

/-- `RX.PUSH` answers the new count (41_packet_framer R123). -/
theorem execRxPush_eq (v : Byte) : execRxPush v s = .next ((pushByte v s).answered
    (packWord 0x00#8 (BitVec.ofNat 8 (pushByte v s).rxCount.toNat) 0x00#8 0x00#8 0x00#8)) := by
  rw [← zext8_eq]
  rfl

end FramerAnswers

/-- Settles O20: `TXBUF` holds the request packet, and what stood beyond it. -/
theorem encodeBuildsTheRequest : Obligations.EncodeBuildsTheRequest := by
  intro a b s
  have byte := loadTx_requestPacket_byte s a b
  obtain ⟨hflag, hlength, hpayload, _⟩ := loadTx_request s a b
  have hchecksum := (congrArg BitVec.toNat (loadTx_requestChecksum s a b)).trans (requestChecksum_toNat a b)
  have houtside : ∀ i, 13 ≤ i → (s.loadTx (requestPacket a b)).txByte i = s.txByte i :=
    fun i hi => loadTx_byte_outside s _ i ((requestPacket_length a b).trans_le hi)
  refine ⟨_, execPktEncode_eq s a b, ?_⟩
  simp only [State.answered_txByte]
  exact ⟨hflag, byte 1 (by decide), byte 2 (by decide), hlength, hpayload, hchecksum, houtside, rfl⟩

/-- Settles O23: the two branches of `pushByte`, the frame being one for both. -/
theorem pushStoresOrSaturates : Obligations.PushStoresOrSaturates := by
  intro a s
  refine ⟨fun hroom => ?_, fun hfull => ?_⟩
  · have hcount : (pushByte a s).rxCount.toNat = s.rxCount.toNat + 1 := by
      rw [pushByte_rxCount_toNat a (by omega)]
      omega
    refine ⟨_, execRxPush_eq s a, pushByte_rxByte_self a hroom, fun i hi => pushByte_rxByte_of_ne a hi,
      hcount, ?_⟩
    rw [hcount]
    exact congrArg (State.answered · _) (pushByte_frame a s)
  · have hword : packWord 0x00#8 (BitVec.ofNat 8 (14#4).toNat) 0x00#8 0x00#8 0x00#8 = 0x000E000000#40 := by
      decide
    refine (execRxPush_eq s a).trans ?_
    rw [pushByte_full s a hfull, ← hword]
    rfl

/-- Settles O21: the gate of 20_memory R53. -/
theorem txReadAnswersTheByte : Obligations.TxReadAnswersTheByte :=
  fun _ s => gatedRead_eq s _ _

/-- Settles O22: the write is to `rx_count` alone, and the response is the empty one. -/
theorem clearOnlyZeroesTheCount : Obligations.ClearOnlyZeroesTheCount :=
  fun s => congrArg Host.Outcome.next (respond_empty (s.setRxCount 0))

/-- Settles O24: the byte count is the only thing looked at (41_packet_framer R126). -/
theorem decodeAnswersTheEnvelope : Obligations.DecodeAnswersTheEnvelope := by
  refine fun s => ⟨fun hcount => if_pos hcount, fun hcount => ?_⟩
  rw [← raise_frameFormatError]
  exact if_neg hcount

/-- Settles O25: the gate of 20_memory R54. -/
theorem rxReadAnswersTheByte : Obligations.RxReadAnswersTheByte :=
  fun _ s => gatedRead_eq s _ _

end Sys2Proof.Machine

/-! ## The answers of the frame reassembler (42_frame_reassembler R151 to R155) -/

namespace Sys2Proof.Machine

section ReassemblerAnswers

variable {s : State}

theorem RsmState.code_eq (st : RsmState) : st.code =
    if st = .idle then 0x00#8 else if st = .await then 0x01#8 else if st = .complete then 0x02#8 else 0x03#8 := by
  cases st <;> rfl

/-- The four session registers as bytes of the response word (42_frame_reassembler R154). -/
theorem respond_sessionResponse (s : State) : s.respond s.sessionResponse = s.answered
    (packWord 0x00#8 s.rsmState.code (BitVec.ofNat 8 s.rsmNext.toNat) (BitVec.ofNat 8 s.rsmExpected.toNat)
      s.rsmCmd) := by
  rw [← zext8_eq, ← zext8_eq]
  rfl

/-- An exchange of at most 16 frames is opened (42_frame_reassembler R151). -/
theorem execRsmStart_of_le_maxFrames {a : Byte} (c : Byte) (h : a.toNat ≤ 16) :
    execRsmStart a c s = .next
      ((s.setSession (if a.toNat = 0 then .complete else .await) 0 (BitVec.ofNat 5 a.toNat) c).answered
        (packWord 0x00#8 (if a.toNat = 0 then 0x02#8 else 0x01#8) 0x00#8 a c)) := by
  have hzero : a = 0#8 ↔ a.toNat = 0 := by rw [← BitVec.toNat_inj]; rfl
  have hcount : BitVec.ofNat 8 (BitVec.ofNat 5 a.toNat).toNat = a := by
    rw [BitVec.toNat_ofNat, Nat.mod_eq_of_lt (by omega), BitVec.ofNat_toNat, BitVec.setWidth_eq]
  refine (if_neg (Nat.not_lt.mpr h)).trans (congrArg Host.Outcome.next ?_)
  simp only [respond_sessionResponse, State.setSession_rsmState, State.setSession_rsmNext,
    State.setSession_rsmExpected, State.setSession_rsmCmd, hzero, ← BitVec.ofNat_toNat, hcount]
  split <;> rfl

/-! ### `RSM.FEED`, in the order of its tests (42_frame_reassembler R152) -/

theorem not_ne_pktSize (hc : s.rxCount.toNat = 13) : ¬s.rxCount.toNat ≠ Config.pktSize := not_not.mpr hc

theorem execRsmFeed_of_rxCount_ne (hc : s.rxCount.toNat ≠ 13) :
    execRsmFeed s = .next (s.answered 0x0200000000#40) := by
  rw [← raise_frameFormatError]
  exact if_pos hc

theorem execRsmFeed_idle (hc : s.rxCount.toNat = 13) (hs : s.rsmState = .idle) :
    execRsmFeed s = .next (s.answered 0x0600000000#40) := by
  rw [← raise_usageError, execRsmFeed, if_neg (not_ne_pktSize hc), hs]

theorem execRsmFeed_failed (hc : s.rxCount.toNat = 13) (hs : s.rsmState = .failed) :
    execRsmFeed s = .next (s.answered 0x0400000000#40) := by
  rw [← raise_sequenceError, execRsmFeed, if_neg (not_ne_pktSize hc), hs]

theorem failSequence_eq (s : State) :
    failSequence s = (s.setRsmState .failed).answered 0x0400000000#40 :=
  raise_sequenceError _

theorem execRsmFeed_complete (hc : s.rxCount.toNat = 13) (hs : s.rsmState = .complete) :
    execRsmFeed s = .next ((s.setRsmState .failed).answered 0x0400000000#40) := by
  rw [← failSequence_eq, execRsmFeed, if_neg (not_ne_pktSize hc), hs]

theorem execRsmFeed_unexpected (hc : s.rxCount.toNat = 13) (hs : s.rsmState = .await)
    (hi : s.rxByte 4 = 0xFF#8 ∨ (s.rxByte 4).toNat ≠ s.rsmNext.toNat) :
    execRsmFeed s = .next ((s.setRsmState .failed).answered 0x0400000000#40) := by
  have hreject : (!s.indexExpected) = true := by
    rw [Bool.not_eq_true', ← Bool.not_eq_true, indexExpected_iff]
    tauto
  rw [← failSequence_eq, execRsmFeed, if_neg (not_ne_pktSize hc), hs]
  exact if_pos hreject

/-- The acceptance of the expected frame, with its response word. -/
theorem execRsmFeed_expected (hc : s.rxCount.toNat = 13) (hs : s.rsmState = .await) (hn : s.rsmNext.toNat < 16)
    (hi : (s.rxByte 4).toNat = s.rsmNext.toNat) :
    execRsmFeed s = .next ((acceptFrame s).answered (packWord 0x00#8
      (if s.rsmNext.toNat + 1 = s.rsmExpected.toNat then 0x02#8 else 0x01#8)
      (BitVec.ofNat 8 (s.rsmNext.toNat + 1)) (BitVec.ofNat 8 s.rsmExpected.toNat) s.rsmCmd)) := by
  have hsentinel : s.rxByte 4 ≠ 0xFF#8 := fun h => by
    rw [h] at hi
    exact absurd hn (hi ▸ by decide)
  rw [← respond_accept s hs hn]
  exact execRsmFeed_accept s hc hs ((indexExpected_iff s).mpr ⟨hsentinel, hi⟩) hn

/-! ### The accepted frame in `ACC` -/

theorem acceptFrame_accByte (s : State) {j : Nat} (hj : j < 7) :
    (acceptFrame s).accByte (7 * s.rsmNext.toNat + j) = s.rxByte (5 + j) := by
  rw [acceptFrame_eq, ← frameBase_eq]
  exact memRead_memWriteList_inside .acc s.acc _ _ j _ (frameBytes_getElem? s j hj)

theorem acceptFrame_accByte_outside (s : State) {i : Nat}
    (hi : i < 7 * s.rsmNext.toNat ∨ 7 * s.rsmNext.toNat + 7 ≤ i) :
    (acceptFrame s).accByte i = s.accByte i := by
  rw [← frameBase_eq] at hi
  rw [acceptFrame_eq]
  exact memRead_memWriteList_outside .acc s.acc _ _ i (by rwa [frameBytes_length])

theorem acceptFrame_rsmNext_toNat (hn : s.rsmNext.toNat < 16) :
    (acceptFrame s).rsmNext.toNat = s.rsmNext.toNat + 1 := by
  rw [acceptFrame_eq]
  exact rsmNext_succ_toNat s (by omega)

theorem acceptFrame_rsmState (hs : s.rsmState = .await) (hn : s.rsmNext.toNat < 16) :
    (acceptFrame s).rsmState = if s.rsmNext.toNat + 1 = s.rsmExpected.toNat then .complete else .await := by
  rw [← rsmNext_succ_toNat s (by omega)]
  simp only [acceptFrame_eq, hs, BitVec.toNat_inj]

/-- The frame of an acceptance (42_frame_reassembler R152). -/
theorem acceptFrame_frame (s : State) : acceptFrame s = { s with
    acc := (acceptFrame s).acc, rsmNext := (acceptFrame s).rsmNext, rsmState := (acceptFrame s).rsmState } := by
  rw [acceptFrame_eq]

end ReassemblerAnswers

/-- Settles O27: one equation for each side of the bound. -/
theorem startOpensTheExchange : Obligations.StartOpensTheExchange := fun _ b s =>
  ⟨execRsmStart_of_maxFrames_lt s b, execRsmStart_of_le_maxFrames b⟩

/-- Settles O28: one equation for each test of R152, and what an acceptance writes. -/
theorem feedAcceptsOnlyTheExpectedFrame : Obligations.FeedAcceptsOnlyTheExpectedFrame := by
  refine fun s => ⟨execRsmFeed_of_rxCount_ne, execRsmFeed_idle, execRsmFeed_failed, execRsmFeed_complete,
    execRsmFeed_unexpected, fun hc hs hn hi => ⟨_, execRsmFeed_expected hc hs hn hi,
      fun j => acceptFrame_accByte s, fun i => acceptFrame_accByte_outside s,
      acceptFrame_rsmNext_toNat hn, acceptFrame_rsmState hs hn, ?_⟩⟩
  exact congrArg (State.answered · _) (acceptFrame_frame s)

/-- Settles O30: the gate of 20_memory R55, with the bound of R52. -/
theorem accReadAnswersTheByte : Obligations.AccReadAnswersTheByte := by
  intro a s
  have hgate : s.rsmState = .complete ∧ a.toNat < s.accReadable
      ↔ s.rsmState = .complete ∧ a.toNat < 7 * s.rsmNext.toNat ∧ a.toNat < 112 :=
    and_congr_right fun _ => Nat.lt_min
  exact (gatedRead_eq s _ _).trans
    (congrArg (fun w => Host.Outcome.next (s.answered w)) (if_congr hgate rfl rfl))

/-- Settles O29: an `OK` answer of `ACC.READ` is not the word of a `UsageError`, whatever the byte. -/
theorem statusAnswersTheSession : Obligations.StatusAnswersTheSession := by
  intro s
  refine ⟨?_, fun a ha => ?_⟩
  · rw [← RsmState.code_eq, ← respond_sessionResponse]
    rfl
  · rw [accReadAnswersTheByte a s]
    by_cases hread : s.rsmState = .complete ∧ a.toNat < 7 * s.rsmNext.toNat
    · obtain ⟨hs, hlt⟩ := hread
      have hok (v : Byte) : packWord 0x00#8 v 0x00#8 0x00#8 0x00#8 ≠ 0x0600000000#40 := fun h =>
        absurd ((fieldOp_packWord ..).symm.trans (congrArg fieldOp h)) (by decide)
      rw [if_pos ⟨hs, hlt, ha⟩, if_pos hs]
      exact iff_of_true (fun h => hok _ (congrArg State.rsp (Host.Outcome.next.inj h))) hlt
    · rw [if_neg (by tauto)]
      refine iff_of_false (not_not.mpr rfl) fun hlt => ?_
      split at hlt
      · next hs => exact hread ⟨hs, hlt⟩
      · exact Nat.not_lt_zero _ hlt

end Sys2Proof.Machine

/-! ## The end of an exchange in `FAILED` (42_frame_reassembler R155, R158) -/

namespace Sys2Proof.Machine

section Failed

variable {i : Instr} {is : List Instr} {s t : State}

/-- No operation but a start or a reset leaves `FAILED` (42_frame_reassembler R158). -/
theorem exec_rsmState_failed (hs : s.rsmState = .failed) (h : exec i s = .next t)
    (hstart : ∀ c b, i ≠ .rsmStart c b) (hreset : i ≠ .sysReset) : t.rsmState = .failed := by
  by_cases hfeed : i = .rsmFeed
  · subst hfeed
    rcases execRsmFeed_cases s h with ⟨e, _, rfl⟩ | ⟨_, _, rfl⟩ | ⟨_, hawait, _⟩
    · exact hs
    · rfl
    · exact nomatch hs.symm.trans hawait
  · obtain ⟨_, hframe⟩ := onlyTheListedOperationsWrite i s t h
    obtain ⟨_, _, _, _, hsession, _⟩ := hframe hreset
    exact (hsession hfeed hstart).1.trans hs

/-- A list of operations that answers a next state begins with one that does. -/
theorem execAll_cons_next (h : execAll (i :: is) s = .next t) :
    ∃ u, exec i s = .next u ∧ execAll is u = .next t := by
  rw [execAll] at h
  split at h
  · next u hu => exact ⟨u, hu, h⟩
  · cases h
  · cases h

theorem execAll_rsmState_failed (hs : s.rsmState = .failed)
    (hops : ∀ i ∈ is, (∀ c b, i ≠ .rsmStart c b) ∧ i ≠ .sysReset) (h : execAll is s = .next t) :
    t.rsmState = .failed := by
  induction is generalizing s with
  | nil => exact Host.Outcome.next.inj h ▸ hs
  | cons i is ih =>
    obtain ⟨hi, hrest⟩ := List.forall_mem_cons.mp hops
    obtain ⟨u, hu, ht⟩ := execAll_cons_next h
    exact ih (exec_rsmState_failed hs hu hi.1 hi.2) hrest ht

end Failed

/-- Settles O31: the feed by its equation in `FAILED`, every other operation by what it writes. -/
theorem failedIsTerminal : Obligations.FailedIsTerminal := fun _ hs =>
  ⟨fun hc => execRsmFeed_failed hc hs, fun _ _ => exec_rsmState_failed hs⟩

/-- Settles O34: the operations leave the state in `FAILED`, where the gate of 20_memory R55 is closed. -/
theorem noReadSucceedsAfterARejection : Obligations.NoReadSucceedsAfterARejection := by
  intro ops s t hs hops h
  have hfailed := execAll_rsmState_failed hs hops h
  exact ⟨hfailed, fun a => execAccRead_of_ne_complete a (by simp [hfailed])⟩

end Sys2Proof.Machine

/-! ## Independence of the reassembler from unread bytes (42_frame_reassembler R160, R161, R162) -/

namespace Sys2Proof.Machine

/-- Where the first outcome is a next state, the second is one that `f` shows alike. -/
def SameView {α : Type} (f : State → α) (o o' : Host.Outcome State Fault Refusal) : Prop :=
  ∀ t, o = .next t → ∃ t', o' = .next t' ∧ f t' = f t

namespace SameView

variable {α : Type} {f : State → α} {s t t' : State}

theorem next (h : f t' = f t) : SameView f (.next t) (.next t') :=
  fun _ ht => ⟨t', rfl, h.trans (congrArg f (Host.Outcome.next.inj ht))⟩

theorem fault (e : Fault) (o : Host.Outcome State Fault Refusal) : SameView f (.fault e) o := nofun

theorem ite {c c' : Prop} [Decidable c] [Decidable c'] {x x' y y' : Host.Outcome State Fault Refusal}
    (hc : c ↔ c') (hx : c → SameView f x x') (hy : ¬c → SameView f y y') :
    SameView f (if c then x else y) (if c' then x' else y') := by
  by_cases h : c
  · rw [if_pos h, if_pos (hc.mp h)]; exact hx h
  · rw [if_neg h, if_neg (mt hc.mpr h)]; exact hy h

/-- Two responses on the port, equal as data. -/
theorem respond {r r' : Response} (h : r' = r) : SameView State.rsp (.next (t.respond r)) (.next (t'.respond r')) :=
  next (congrArg Response.word h)

theorem raise (e : ErrorKind) : SameView State.rsp (.next (t.raise e)) (.next (t'.raise e)) := respond rfl

/-- A feed in two states that take the same branch of 42_frame_reassembler R152. -/
theorem execRsmFeed {s' : State} (hcount : s'.rxCount = s.rxCount) (hstate : s'.rsmState = s.rsmState)
    (hnext : s'.rsmNext = s.rsmNext) (hindex : s'.indexExpected = s.indexExpected)
    (hraise : ∀ e, f (s'.raise e) = f (s.raise e)) (hfail : f (failSequence s') = f (failSequence s))
    (haccept : f ((acceptFrame s').respond (acceptFrame s').sessionResponse)
      = f ((acceptFrame s).respond (acceptFrame s).sessionResponse)) :
    SameView f (execRsmFeed s) (execRsmFeed s') := by
  refine .ite (by rw [hcount]) (fun _ => .next (hraise _)) fun _ => ?_
  rw [hstate]
  cases s.rsmState with
  | idle => exact .next (hraise _)
  | failed => exact .next (hraise _)
  | complete => exact .next hfail
  | await =>
    exact .ite (by rw [hindex]) (fun _ => .next hfail) fun _ =>
      .ite (by rw [frameBase_eq, frameBase_eq, hnext]) (fun _ => .fault _ _) fun _ => .next haccept

/-! ### The bytes of `ACC` (42_frame_reassembler R161) -/

theorem execRsmFeed_acc (s : State) (other : Memory) :
    SameView State.rsp (Machine.execRsmFeed s) (Machine.execRsmFeed { s with acc := other }) :=
  execRsmFeed rfl rfl rfl rfl (fun _ => rfl) rfl <| by
    simp only [State.respond_rsp, State.sessionResponse, acceptFrame_eq]

/-- Outside `COMPLETE` the response of no instruction depends on the bytes of `ACC`. -/
theorem exec_acc (hs : s.rsmState ≠ .complete) (other : Memory) (i : Instr) :
    SameView State.rsp (exec i s) (exec i { s with acc := other }) := by
  cases i with
  | sysNop => exact .respond rfl
  | sysReset => exact .respond rfl
  | cksCompute a b c d => exact .respond rfl
  | cksVerify a =>
    exact .ite Iff.rfl (fun _ => .raise _) fun _ => .ite Iff.rfl
      (fun _ => .ite Iff.rfl (fun _ => .respond rfl) fun _ => .raise _)
      fun _ => .ite Iff.rfl (fun _ => .respond rfl) fun _ => .raise _
  | pktEncode a b => exact .respond rfl
  | txRead a => exact .ite Iff.rfl (fun _ => .respond rfl) fun _ => .raise _
  | rxClear => exact .respond rfl
  | rxPush v =>
    refine .respond ?_
    by_cases hroom : s.rxCount.toNat < 13
    · rw [pushByte_room s v hroom, pushByte_room { s with acc := other } v hroom]
      rfl
    · rw [pushByte_full s v (Nat.not_lt.mp hroom), pushByte_full { s with acc := other } v (Nat.not_lt.mp hroom)]
      rfl
  | pktDecode => exact .ite Iff.rfl (fun _ => .respond rfl) fun _ => .raise _
  | rxRead a => exact .ite Iff.rfl (fun _ => .respond rfl) fun _ => .raise _
  | rsmStart n c => exact .ite Iff.rfl (fun _ => .raise _) fun _ => .respond rfl
  | rsmFeed => exact execRsmFeed_acc s other
  | rsmStatus => exact .respond rfl
  | accRead a => exact .ite Iff.rfl (fun h => absurd h.1 hs) fun _ => .raise _
  | cfgSet a b c d =>
    exact .ite Iff.rfl (fun _ => .raise _) fun _ => .ite Iff.rfl (fun _ => .raise _) fun _ => .respond rfl
  | cfgRead => exact .respond rfl
  | muxLookup a =>
    refine .ite Iff.rfl (fun _ => ?_) fun _ => .raise _
    cases groupOfId a with
    | none => exact .raise _
    | some g => exact .respond (by cases g <;> rfl)

end SameView

/-- Settles O32: the one instruction that reads `ACC` is refused outside `COMPLETE`. -/
theorem partialBufferIsNeverRead : Obligations.PartialBufferIsNeverRead :=
  fun _ t other i hs h => SameView.exec_acc hs other i t h

/-! ### The envelope and the checksum byte (42_frame_reassembler R162) -/

/-- What a feed does to the reassembler, and the status it answers. -/
def State.feedView (s : State) : Memory × BitVec 5 × RsmState × Byte := (s.acc, s.rsmNext, s.rsmState, s.status)

section Envelope

variable {s : State} {other : Memory} (command : Byte)
  (hrx : ∀ i, 4 ≤ i → i ≤ 11 → memRead .rx other i = s.rxByte i)
include hrx

theorem frameBytes_envelope : ({ s with rx := other, rsmCmd := command } : State).frameBytes = s.frameBytes :=
  memReadList_congr fun i hlow hhigh => hrx i (by omega) (by simp at hhigh; omega)

theorem indexExpected_envelope :
    ({ s with rx := other, rsmCmd := command } : State).indexExpected = s.indexExpected := by
  have hindex : ({ s with rx := other, rsmCmd := command } : State).frameIndex = s.frameIndex :=
    hrx 4 (by decide) (by decide)
  simp only [State.indexExpected, hindex]

theorem SameView.execRsmFeed_envelope : SameView State.feedView (Machine.execRsmFeed s)
    (Machine.execRsmFeed { s with rx := other, rsmCmd := command }) := by
  have hstatus (u : State) : (u.respond u.sessionResponse).status = 0x00#8 := status_of_rsp rfl
  refine execRsmFeed rfl rfl rfl (indexExpected_envelope command hrx) (fun _ => rfl) rfl ?_
  simp only [State.feedView, hstatus, State.respond_acc, State.respond_rsmNext, State.respond_rsmState,
    acceptFrame_eq, frameBytes_envelope command hrx]
  rfl

end Envelope

/-- Settles O35: the tests and the writes of a feed are made of the received count, of bytes 4 to 11 and of the session
registers other than `rsm_cmd`. -/
theorem feedIgnoresEnvelopeAndChecksum : Obligations.FeedIgnoresEnvelopeAndChecksum := by
  intro s t other command hrx h
  obtain ⟨u, hu, hview⟩ := SameView.execRsmFeed_envelope command hrx t h
  simp only [State.feedView, Prod.mk.injEq] at hview
  exact ⟨u, hu, hview⟩

end Sys2Proof.Machine

/-! ## The frames of an exchange, in order (42_frame_reassembler R160, 70_reset_and_hazards R250) -/

namespace Sys2Proof.Machine

section ExecAll

variable {i : Instr} {is : List Instr} {s t : State}

theorem execAll_cons_of_next (h : exec i s = .next t) (is : List Instr) : execAll (i :: is) s = execAll is t := by
  rw [execAll, h]

theorem execAll_append_of_next (h : execAll is s = .next t) (js : List Instr) :
    execAll (is ++ js) s = execAll js t := by
  induction is generalizing s with
  | nil => rw [Host.Outcome.next.inj h]; rfl
  | cons i is ih =>
    obtain ⟨u, hu, ht⟩ := execAll_cons_next h
    exact (execAll_cons_of_next hu _).trans (ih ht)

end ExecAll

theorem exchange_append (c : Byte) (total : Nat) (packets : List (List Byte)) (packet : List Byte) :
    exchange c total (packets ++ [packet]) = exchange c total packets ++ feedLeg packet := by
  simp [exchange]

@[simp] theorem State.answered_accByte (s : State) (w : Word) (i : Nat) :
    (s.answered w).accByte i = s.accByte i := rfl

/-- In `t` the first `n` of the frames of an exchange are accepted: their data bytes stand in `ACC` in that order, and
the last operation was answered `OK`. -/
structure Accepted (frames : List (List Byte)) (n : Nat) (t : State) : Prop where
  state : t.rsmState = if n = frames.length then .complete else .await
  next : t.rsmNext.toNat = n
  expected : t.rsmExpected.toNat = frames.length
  ok : t.status = 0x00#8
  bytes : ∀ (k j : Nat) (f : List Byte) (v : Byte), k < n → frames[k]? = some f → j < 7 → f[5 + j]? = some v →
    t.accByte (7 * k + j) = v

section Accepted

variable {frames : List (List Byte)} {n : Nat} {s : State}

/-- `RSM.START` opens the exchange with no frame accepted. -/
theorem accepted_start (h0 : 1 ≤ frames.length) (h16 : frames.length ≤ 16) (c : Byte) (s : State) :
    ∃ t, execAll (exchange c frames.length []) s = .next t ∧ Accepted frames 0 t := by
  have hcount : (BitVec.ofNat 8 frames.length).toNat = frames.length := by
    rw [BitVec.toNat_ofNat]
    omega
  have hstart := execRsmStart_of_le_maxFrames (s := s) c (hcount.trans_le h16)
  rw [hcount] at hstart
  refine ⟨_, execAll_cons_of_next (i := .rsmStart _ c) hstart [], ?_, rfl, ?_, status_of_rsp rfl, nofun⟩
  · simp only [State.answered_rsmState, State.setSession_rsmState, eq_comm]
  · show (BitVec.ofNat 5 frames.length).toNat = frames.length
    rw [BitVec.toNat_ofNat]
    omega

/-- One more receive leg: `RX.LOAD` leaves the reassembler as it was, and the feed accepts the expected frame. -/
theorem Accepted.feedLeg (h : Accepted frames n s) (h16 : frames.length ≤ 16) {f : List Byte}
    (hf : frames[n]? = some f) (hlength : f.length = 13) (hindex : f[4]? = some (BitVec.ofNat 8 n)) :
    ∃ t, execAll (feedLeg f) s = .next t ∧ Accepted frames (n + 1) t := by
  have hn : n < frames.length := (List.getElem?_eq_some_iff.mp hf).1
  obtain ⟨u, hload, hcount, hbytes, hframe⟩ := loadFillsTheReceiveBuffer f s
  have hsize : u.rxCount.toNat = 13 := by rw [hcount, hlength]; rfl
  have hstate : u.rsmState = .await :=
    (congrArg State.rsmState hframe).trans (h.state.trans (if_neg (Nat.ne_of_lt hn)))
  have hnext : u.rsmNext.toNat = n := (congrArg (·.rsmNext.toNat) hframe).trans h.next
  have hexpected : u.rsmExpected.toNat = frames.length :=
    (congrArg (·.rsmExpected.toNat) hframe).trans h.expected
  have hacc (i : Nat) : u.accByte i = s.accByte i := congrArg (·.accByte i) hframe
  have hroom : u.rsmNext.toNat < 16 := by omega
  have hfeed := execRsmFeed_expected hsize hstate hroom <| by
    rw [hbytes 4 _ (by decide) hindex, hnext, BitVec.toNat_ofNat]
    omega
  refine ⟨_, (execAll_append_of_next hload _).trans (execAll_cons_of_next (i := .rsmFeed) hfeed []),
    ?_, ?_, ?_, status_of_rsp rfl, fun k j g v hk hg hj hv => ?_⟩
  · rw [State.answered_rsmState, acceptFrame_rsmState hstate hroom, hnext, hexpected]
  · rw [State.answered_rsmNext, acceptFrame_rsmNext_toNat hroom, hnext]
  · rw [State.answered_rsmExpected, acceptFrame_frame]
    exact hexpected
  · rw [State.answered_accByte]
    rcases Nat.lt_succ_iff_lt_or_eq.mp hk with hold | rfl
    · rw [acceptFrame_accByte_outside u (.inl (by omega)), hacc]
      exact h.bytes k j g v hold hg hj hv
    · obtain rfl : f = g := Option.some.inj (hf.symm.trans hg)
      rw [← hnext, acceptFrame_accByte u hj]
      exact hbytes (5 + j) v (by omega) hv

/-- The first `n` legs of an exchange whose frames carry their numbers. -/
theorem accepted_exchange (h0 : 1 ≤ frames.length) (h16 : frames.length ≤ 16)
    (hlength : ∀ f ∈ frames, f.length = 13)
    (hindex : ∀ k f, frames[k]? = some f → f[4]? = some (BitVec.ofNat 8 k)) (c : Byte) (s : State)
    (hn : n ≤ frames.length) :
    ∃ t, execAll (exchange c frames.length (frames.take n)) s = .next t ∧ Accepted frames n t := by
  induction n with
  | zero => exact accepted_start h0 h16 c s
  | succ n ih =>
    obtain ⟨u, hu, hacc⟩ := ih (by omega)
    have hf : frames[n]? = some frames[n] := List.getElem?_eq_getElem hn
    obtain ⟨t, ht, h⟩ := hacc.feedLeg h16 hf (hlength _ (List.getElem_mem hn)) (hindex n _ hf)
    rw [← List.take_append_getElem hn, exchange_append]
    exact ⟨t, (execAll_append_of_next hu _).trans ht, h⟩

end Accepted

/-- Settles O33: after all the legs every frame is accepted, and `ACC.READ` answers by its gate. -/
theorem framesInOrderAreReassembled : Obligations.FramesInOrderAreReassembled := by
  intro s c frames h0 h16 hlength hindex
  have run {n : Nat} := accepted_exchange (n := n) h0 h16 hlength hindex c s
  refine ⟨fun n _ hn => (run hn).imp fun _ h => ⟨h.1, h.2.ok⟩, ?_⟩
  obtain ⟨t, ht, h⟩ := run le_rfl
  rw [List.take_length] at ht
  have hstate : t.rsmState = .complete := h.state.trans (if_pos rfl)
  refine ⟨t, ht, hstate, h.next, fun k j f v a hf hj hv ha => ?_, fun a ha => ?_⟩
  · have hk : k < frames.length := (List.getElem?_eq_some_iff.mp hf).1
    have hread : a.toNat < 7 * t.rsmNext.toNat ∧ a.toNat < 112 := by rw [h.next]; omega
    rw [accReadAnswersTheByte a t, if_pos ⟨hstate, hread⟩, ha, h.bytes k j f v hk hf hj hv]
  · have hbeyond : ¬a.toNat < 7 * t.rsmNext.toNat := by rw [h.next]; omega
    rw [accReadAnswersTheByte a t, if_neg fun hg => hbeyond hg.2.1]

end Sys2Proof.Machine

/-! ## The configuration registers and the lookup (43_command_dispatch_mux R183 to R186) -/

namespace Sys2Proof.Machine

section Configuration

variable {s : State}

/-- 43_command_dispatch_mux R183: the four registers of a configuration within the ranges, by the operands' numbers. -/
theorem execCfgSet_of_inRange {a b d : Byte} (c : Byte) (hv : s.cfgValid = false) (ha : a.toNat ≤ 48)
    (hb : b.toNat ≤ 16) (hd : d.toNat < 2) :
    execCfgSet a b c d s = .next ((s.setConfig (BitVec.ofNat 6 a.toNat) (BitVec.ofNat 5 b.toNat)
      (BitVec.ofNat 9 (256 * d.toNat + c.toNat))).answered 0x0000000000#40) := by
  have hrange : ¬(Config.maxStrings < a.toNat ∨ Config.maxSensors < b.toNat ∨ undefinedEnableBits d ≠ 0#7) := by
    rw [ne_eq, undefinedEnableBits_eq_zero_iff, Config.maxStrings_eq, Config.maxSensors_eq]
    omega
  rw [← respond_empty, ← Nat.mod_eq_of_lt hd, ← enableSet_eq]
  exact (if_neg (by simp [hv])).trans (if_neg hrange)

/-- The enable set has nine bits, the upper one that of the last group (10_state R29). -/
theorem cfgEnable_upperBit (s : State) :
    (if s.cfgEnable.getLsbD 8 = true then 1 else 0) = s.cfgEnable.toNat / 256 :=
  (enabled_eq s .failureStatus).trans (Nat.mod_eq_of_lt (Nat.div_lt_of_lt_mul s.cfgEnable.isLt))

theorem cfgEnable_lowByte (s : State) :
    s.cfgEnable.extractLsb' 0 8 = BitVec.ofNat 8 (s.cfgEnable.toNat % 256) := by
  apply BitVec.eq_of_toNat_eq
  simp

/-! ### The groups by their ids -/

/-- A place in the enumeration of 43_command_dispatch_mux R180 is a group id. -/
theorem groupId_of_getElem? {n : Nat} {g : TelemetryGroup}
    (h : [TelemetryGroup.soc, .minmaxCellV, .minmaxTemp, .mosStatus, .statusInfo1, .cellVoltages,
      .cellTemps, .cellBalance, .failureStatus][n]? = some g) : n = groupId g := by
  obtain ⟨hn, rfl⟩ := List.getElem?_eq_some_iff.mp h
  simp only [List.length_cons, List.length_nil] at hn
  interval_cases n <;> rfl

theorem groupOfId_of_toNat_eq {a : Byte} {g : TelemetryGroup} (h : a.toNat = groupId g) :
    groupOfId a = some g := by
  rw [← groupOfId_groupId g, ← h, BitVec.ofNat_toNat, BitVec.setWidth_eq]

theorem isMultiFrame_iff (g : TelemetryGroup) : isMultiFrame g = true ↔ groupId g = 5 ∨ groupId g = 6 := by
  cases g <;> decide

theorem frameCount_eq (s : State) (g : TelemetryGroup) :
    s.frameCount g = if groupId g = 5 then (s.cfgCells.toNat + 2) / 3
      else if groupId g = 6 then (s.cfgSensors.toNat + 6) / 7 else 1 := by
  cases g <;> rfl

theorem items_eq (s : State) (g : TelemetryGroup) :
    s.items g = if groupId g = 5 then s.cfgCells.toNat
      else if groupId g = 6 then s.cfgSensors.toNat else 0 := by
  cases g <;> rfl

/-- 43_command_dispatch_mux R185: nothing is looked up before configuration. -/
theorem execMuxLookup_of_not_cfgValid (a : Byte) (hv : s.cfgValid = false) :
    execMuxLookup a s = .next (s.answered 0x0600000000#40) := by
  rw [← raise_usageError]
  exact if_neg (by simp [hv])

theorem execMuxLookup_of_groupOfId {a : Byte} {g : TelemetryGroup} (hv : s.cfgValid = true)
    (hg : groupOfId a = some g) : execMuxLookup a s = .next (s.respond (s.lookupResponse g)) := by
  rw [execMuxLookup, if_pos hv, hg]

/-- The answer of a lookup by the group's id and the numbers of the registers (43_command_dispatch_mux R185, R186). -/
theorem respond_lookupResponse (s : State) (g : TelemetryGroup) : s.respond (s.lookupResponse g) =
    s.answered (packWord 0x00#8 (Config.cmdCode g)
      (BitVec.ofNat 8 ((if groupId g = 5 ∨ groupId g = 6 then 2 else 0)
        + s.cfgEnable.toNat / 2 ^ groupId g % 2))
      (BitVec.ofNat 8 (if groupId g = 5 then (s.cfgCells.toNat + 2) / 3
        else if groupId g = 6 then (s.cfgSensors.toNat + 6) / 7 else 1))
      (BitVec.ofNat 8 (if groupId g = 5 then s.cfgCells.toNat
        else if groupId g = 6 then s.cfgSensors.toNat else 0))) := by
  rw [respond_eq, ← frameCount_eq, ← items_eq, ← enabled_eq, ← if_congr (isMultiFrame_iff g) rfl rfl,
    ← lookupFlags_eq]
  rfl

end Configuration

/-- Settles O36: one equation for each case of R183, in the order of its tests. -/
theorem configureOnceWithinRange : Obligations.ConfigureOnceWithinRange := fun a b c d _ =>
  ⟨execCfgSet_of_cfgValid a b c d, execCfgSet_of_outOfRange c, execCfgSet_of_inRange c⟩

/-- Settles O38: an id below 9 is the id of one group, which the lookup answers. -/
theorem lookupAnswersTheGroup : Obligations.LookupAnswersTheGroup := by
  refine fun a s => ⟨fun hrefused => ?_, fun hv g hg => ?_⟩
  · rcases hrefused with hv | ha
    · exact execMuxLookup_of_not_cfgValid a hv
    · exact execMuxLookup_of_nGroups_le s ha
  · have hid := groupId_of_getElem? hg
    rw [hid, ← respond_lookupResponse]
    exact execMuxLookup_of_groupOfId hv (groupOfId_of_toNat_eq hid)

/-- Settles O37: each response byte by the number of its register. -/
theorem configReadAnswersTheRegisters : Obligations.ConfigReadAnswersTheRegisters := by
  intro s
  rw [← zext8_eq, ← zext8_eq, ← cfgEnable_lowByte, ← cfgEnable_upperBit, ← configFlags_eq]
  rfl

/-- Settles O39: the two ceilings, and what follows from them in the numbers. -/
theorem frameCountIsTheCeiling : Obligations.FrameCountIsTheCeiling := by
  intro s
  have hcells : s.frameCount .cellVoltages = (s.cfgCells.toNat + 2) / 3 := rfl
  have hsensors : s.frameCount .cellTemps = (s.cfgSensors.toNat + 6) / 7 := rfl
  have hsingle : ∀ g, g ≠ .cellVoltages → g ≠ .cellTemps → s.frameCount g = 1 := by
    intro g hv ht
    cases g with
    | cellVoltages => exact absurd rfl hv
    | cellTemps => exact absurd rfl ht
    | _ => rfl
  refine ⟨hcells, hsensors, hsingle, ?_⟩
  rw [hcells, hsensors]
  refine ⟨?_, ?_, ?_, ?_, ?_, ?_⟩ <;> omega

end Sys2Proof.Machine

/-! ## The configuration until reset (43_command_dispatch_mux R188) -/

namespace Sys2Proof.Machine

/-- The four configuration registers of `t` are those of `s`. -/
structure SameConfig (s t : State) : Prop where
  valid : t.cfgValid = s.cfgValid
  cells : t.cfgCells = s.cfgCells
  sensors : t.cfgSensors = s.cfgSensors
  enable : t.cfgEnable = s.cfgEnable

section SameConfig

variable {s t : State} {i : Instr}

/-- Once configured, `CFG.SET` is refused (R183), and no other operation but `SYS.RESET` writes the registers. -/
theorem exec_sameConfig (hv : s.cfgValid = true) (hreset : i ≠ .sysReset) (h : exec i s = .next t) :
    SameConfig s t := by
  by_cases hset : ∃ a b c d, i = .cfgSet a b c d
  · obtain ⟨a, b, c, d, rfl⟩ := hset
    obtain rfl := Host.Outcome.next.inj ((execCfgSet_of_cfgValid a b c d hv).symm.trans h)
    exact ⟨rfl, rfl, rfl, rfl⟩
  · obtain ⟨_, hframe⟩ := onlyTheListedOperationsWrite i s t h
    obtain ⟨_, _, _, _, _, _, hconfig⟩ := hframe hreset
    obtain ⟨hvalid, hcells, hsensors, henable⟩ := hconfig fun a b c d hi => hset ⟨a, b, c, d, hi⟩
    exact ⟨hvalid, hcells, hsensors, henable⟩

/-- A step of a configured block that is no reset keeps the configuration. -/
theorem step_sameConfig (hv : s.cfgValid = true) (hstep : step s = .next t)
    (hreset : ∀ p rest, s.inputs = p :: rest → p.rst = false ∧ decode p.cmd ≠ .ok .sysReset) :
    SameConfig s t := by
  rcases step_cases hstep with ⟨rest, rfl⟩ | ⟨p, rest, hi, hr, rfl⟩ | ⟨p, rest, i, hi, _, _, hd, hexec⟩
    | ⟨p, rest, _, _, _, rfl⟩
  · exact ⟨rfl, rfl, rfl, rfl⟩
  · exact nomatch hr.symm.trans (hreset p rest hi).1
  · have hi : i ≠ .sysReset := fun h => (hreset p rest hi).2 (h ▸ hd)
    exact { exec_sameConfig (s := s.setInputs rest) hv hi hexec with }
  · exact ⟨rfl, rfl, rfl, rfl⟩

theorem SameConfig.lookupResponse (h : SameConfig s t) (g : TelemetryGroup) :
    t.lookupResponse g = s.lookupResponse g := by
  unfold State.lookupResponse State.enabled State.frameCount State.items
  rw [h.enable, h.cells, h.sensors]

/-- A lookup sees the configuration registers and nothing else. -/
theorem SameConfig.execMuxLookup (h : SameConfig s t) (a : Byte) :
    SameView State.rsp (execMuxLookup a s) (execMuxLookup a t) := by
  refine .ite (by rw [h.valid]) (fun _ => ?_) fun _ => .raise _
  cases groupOfId a with
  | none => exact .raise _
  | some g => exact .respond (h.lookupResponse g)

end SameConfig

/-- Settles O40: the registers a lookup is made of are those of the state before the step. -/
theorem configurationIsFixedUntilReset : Obligations.ConfigurationIsFixedUntilReset := by
  intro s t hv hstep hreset
  have h := step_sameConfig hv hstep hreset
  refine ⟨h.valid.trans hv, h.cells, h.sensors, h.enable, fun a => ?_⟩
  obtain ⟨u, hu⟩ := exec_next_of_ne_feed (.muxLookup a) s nofun
  obtain ⟨v, ht, hrsp⟩ := h.execMuxLookup a u hu
  exact ⟨u, v, hu, ht, hrsp.symm⟩

end Sys2Proof.Machine

/-! ## The system operations (44_system_ops R200, R201) -/

namespace Sys2Proof.Machine

section Reset

variable (s : State)

theorem State.sameRegisters_refl : s.sameRegisters s :=
  ⟨rfl, rfl, rfl, rfl, rfl, rfl, rfl, rfl, rfl, rfl, rfl, rfl, rfl⟩

/-- The ports are no registers (10_state R20), so those that stay in a reset make no difference. -/
theorem sameRegisters_resetRegisters_iff {t : State} :
    t.sameRegisters s.resetRegisters ↔ t.sameRegisters State.reset := Iff.rfl

theorem resetRegisters_sameRegisters_reset : s.resetRegisters.sameRegisters State.reset :=
  (sameRegisters_resetRegisters_iff s).mp s.resetRegisters.sameRegisters_refl

/-- The `rst` input leaves the registers `SYS.RESET` leaves (70_reset_and_hazards R240). -/
theorem assertReset_sameRegisters_reset : s.assertReset.sameRegisters State.reset :=
  resetRegisters_sameRegisters_reset s

/-- A sample with `rst` resets the block, whatever word it presents (70_reset_and_hazards R240). -/
theorem step_of_rst {s : State} {p : PortIn} {rest : List PortIn} (hi : s.inputs = p :: rest)
    (hr : p.rst = true) : step s = .next (s.setInputs rest).assertReset := by
  simp only [step, fetch_cons s p rest hi, portEvent_rst p hr]

theorem exec_sysReset : exec .sysReset s = .next (s.resetRegisters.answered 0x0000000000#40) :=
  congrArg Host.Outcome.next (respond_empty s.resetRegisters)

end Reset

/-- Settles O12: the response with every byte zero is the only effect. -/
theorem nopOnlyAnswers : Obligations.NopOnlyAnswers := fun s =>
  congrArg Host.Outcome.next (respond_empty s)

/-- Settles O13: `SYS.RESET` and the `rst` sample both leave the registers of the reset state. -/
theorem sysResetResetsEveryRegister : Obligations.SysResetResetsEveryRegister := fun s =>
  ⟨s.resetRegisters.answered 0x0000000000#40, exec_sysReset s, resetRegisters_sameRegisters_reset s,
    rfl, rfl, rfl, fun _ rest hr => ⟨_, step_of_rst rfl hr,
      (sameRegisters_resetRegisters_iff s).mpr (assertReset_sameRegisters_reset (s.setInputs rest))⟩⟩

end Sys2Proof.Machine

/-! ## The errors of the operations (60_exceptions R217 to R219) -/

namespace Sys2Proof.Machine

theorem ErrorKind.code_injective : Function.Injective ErrorKind.code := fun e e' h => by
  cases e <;> cases e' <;> simp [ErrorKind.code] at h ⊢

theorem ErrorKind.code_ne_zero (e : ErrorKind) : e.code ≠ 0#8 := by
  cases e <;> decide

@[simp] theorem State.raise_status (s : State) (e : ErrorKind) : (s.raise e).status = e.code :=
  status_of_rsp rfl

/-- Settles O44, by the three answers of an instruction: an error of the second kind is a `SequenceError` only for a
feed in `FAILED`, so the exception of R218 is the third kind and no other. -/
theorem errorsChangeNothingButFailed : Obligations.ErrorsChangeNothingButFailed := by
  intro i s t h hne
  refine ⟨(exec_hasResponse h).2.2 hne, ?_⟩
  rcases exec_cases i s t h with ⟨u, r, rfl, hr⟩ | ⟨e, he, rfl⟩ | ⟨hfeed, hs, rfl⟩
  · exact absurd ((status_of_rsp rfl).trans hr) hne
  · refine (if_neg fun ⟨_, hstatus, hs⟩ => ?_).mpr rfl
    obtain rfl : e = .sequenceError := ErrorKind.code_injective ((s.raise_status e).symm.trans hstatus)
    obtain ⟨_, hfailed⟩ : i = .rsmFeed ∧ s.rsmState = .failed := by simpa using he
    simp [hfailed] at hs
  · exact (if_pos ⟨hfeed, State.raise_status .., hs⟩).mpr rfl

/-- `TableError s i e`: the table of 60_exceptions R217 has an entry that makes instruction `i` answer error `e` in
state `s`, the priorities of R219 applied. `TableError.exec_eq` and `exec_ok_or_tableError` tie it to `exec`. -/
inductive TableError (s : State) : Instr → ErrorKind → Prop where
  | verifySize (hc : s.rxCount.toNat ≠ 13) : TableError s (.cksVerify 0#8) .frameFormatError
  | decodeSize (hc : s.rxCount.toNat ≠ 13) : TableError s .pktDecode .frameFormatError
  | feedSize (hc : s.rxCount.toNat ≠ 13) : TableError s .rsmFeed .frameFormatError
  | feedSequence (hc : s.rxCount.toNat = 13)
      (h : s.rsmState = .failed ∨ s.rsmState = .complete
        ∨ (s.rsmState = .await ∧ ((s.rxByte 4).toNat ≠ s.rsmNext.toNat ∨ s.rxByte 4 = 0xFF#8))) :
      TableError s .rsmFeed .sequenceError
  | startCount (a b : Byte) (h : 16 < a.toNat) : TableError s (.rsmStart a b) .configurationError
  | configRange (a b c d : Byte) (hv : s.cfgValid = false)
      (h : 48 < a.toNat ∨ 16 < b.toNat ∨ 2 ≤ d.toNat) : TableError s (.cfgSet a b c d) .configurationError
  | verifySelect (a : Byte) (h : 2 ≤ a.toNat ∨ (a.toNat = 1 ∧ s.txValid = false)) :
      TableError s (.cksVerify a) .usageError
  | txGate (a : Byte) (h : s.txValid = false ∨ 13 ≤ a.toNat) : TableError s (.txRead a) .usageError
  | rxGate (a : Byte) (h : min s.rxCount.toNat 13 ≤ a.toNat) : TableError s (.rxRead a) .usageError
  | feedIdle (hc : s.rxCount.toNat = 13) (hs : s.rsmState = .idle) : TableError s .rsmFeed .usageError
  | accGate (a : Byte) (h : s.rsmState ≠ .complete ∨ 7 * s.rsmNext.toNat ≤ a.toNat ∨ 112 ≤ a.toNat) :
      TableError s (.accRead a) .usageError
  | configTwice (a b c d : Byte) (hv : s.cfgValid = true) : TableError s (.cfgSet a b c d) .usageError
  | lookupGroup (a : Byte) (h : s.cfgValid = false ∨ 9 ≤ a.toNat) : TableError s (.muxLookup a) .usageError

section TableError

variable {i : Instr} {s t : State} {e : ErrorKind}

/-! ### The columns of the table -/

theorem tableError_frameFormatError_iff : TableError s i .frameFormatError ↔
    (i = .cksVerify 0#8 ∨ i = .pktDecode ∨ i = .rsmFeed) ∧ s.rxCount.toNat ≠ 13 := by
  constructor
  · rintro (hc | hc | hc) <;> simp [hc]
  · rintro ⟨rfl | rfl | rfl, hc⟩
    · exact .verifySize hc
    · exact .decodeSize hc
    · exact .feedSize hc

theorem tableError_sequenceError_iff : TableError s i .sequenceError ↔
    i = .rsmFeed ∧ s.rxCount.toNat = 13
      ∧ (s.rsmState = .failed ∨ s.rsmState = .complete
        ∨ (s.rsmState = .await ∧ ((s.rxByte 4).toNat ≠ s.rsmNext.toNat ∨ s.rxByte 4 = 0xFF#8))) :=
  ⟨fun | .feedSequence hc h => ⟨rfl, hc, h⟩, fun ⟨hi, hc, h⟩ => hi ▸ .feedSequence hc h⟩

theorem tableError_configurationError_iff : TableError s i .configurationError ↔
    (∃ a b, i = .rsmStart a b ∧ 16 < a.toNat)
      ∨ ∃ a b c d, i = .cfgSet a b c d ∧ s.cfgValid = false
          ∧ (48 < a.toNat ∨ 16 < b.toNat ∨ 2 ≤ d.toNat) := by
  constructor
  · intro h
    cases h with
    | startCount a b h => exact .inl ⟨a, b, rfl, h⟩
    | configRange a b c d hv h => exact .inr ⟨a, b, c, d, rfl, hv, h⟩
  · rintro (⟨a, b, rfl, h⟩ | ⟨a, b, c, d, rfl, hv, h⟩)
    · exact .startCount a b h
    · exact .configRange a b c d hv h

theorem tableError_usageError_iff : TableError s i .usageError ↔
    (∃ a, i = .cksVerify a ∧ (2 ≤ a.toNat ∨ (a.toNat = 1 ∧ s.txValid = false)))
      ∨ (∃ a, i = .txRead a ∧ (s.txValid = false ∨ 13 ≤ a.toNat))
      ∨ (∃ a, i = .rxRead a ∧ min s.rxCount.toNat 13 ≤ a.toNat)
      ∨ (i = .rsmFeed ∧ s.rxCount.toNat = 13 ∧ s.rsmState = .idle)
      ∨ (∃ a, i = .accRead a
          ∧ (s.rsmState ≠ .complete ∨ 7 * s.rsmNext.toNat ≤ a.toNat ∨ 112 ≤ a.toNat))
      ∨ (∃ a b c d, i = .cfgSet a b c d ∧ s.cfgValid = true)
      ∨ ∃ a, i = .muxLookup a ∧ (s.cfgValid = false ∨ 9 ≤ a.toNat) := by
  constructor
  · intro h
    cases h with
    | verifySelect a h => exact .inl ⟨a, rfl, h⟩
    | txGate a h => exact .inr (.inl ⟨a, rfl, h⟩)
    | rxGate a h => exact .inr (.inr (.inl ⟨a, rfl, h⟩))
    | feedIdle hc hs => exact .inr (.inr (.inr (.inl ⟨rfl, hc, hs⟩)))
    | accGate a h => exact .inr (.inr (.inr (.inr (.inl ⟨a, rfl, h⟩))))
    | configTwice a b c d hv => exact .inr (.inr (.inr (.inr (.inr (.inl ⟨a, b, c, d, rfl, hv⟩)))))
    | lookupGroup a h => exact .inr (.inr (.inr (.inr (.inr (.inr ⟨a, rfl, h⟩)))))
  · rintro (⟨a, rfl, h⟩ | ⟨a, rfl, h⟩ | ⟨a, rfl, h⟩ | ⟨rfl, hc, hs⟩ | ⟨a, rfl, h⟩ | ⟨a, b, c, d, rfl, hv⟩
      | ⟨a, rfl, h⟩)
    · exact .verifySelect a h
    · exact .txGate a h
    · exact .rxGate a h
    · exact .feedIdle hc hs
    · exact .accGate a h
    · exact .configTwice a b c d hv
    · exact .lookupGroup a h

/-! ### Where the table has an entry, its error is answered -/

/-- The gate of 20_memory R55: the offset is not in an accepted frame. -/
theorem execAccRead_of_accepted_le {a : Byte} (h : 7 * s.rsmNext.toNat ≤ a.toNat) :
    execAccRead a s = .next (s.answered 0x0600000000#40) := by
  rw [← raise_usageError]
  exact if_neg fun hg => Nat.not_lt.mpr h (lt_of_lt_of_le hg.2 (Nat.min_le_left ..))

theorem TableError.exec_eq (h : TableError s i e) : ∃ u, exec i s = .next (State.raise u e) := by
  cases h with
  | verifySize hc => exact ⟨s, execCksVerify_of_rxCount_ne hc⟩
  | decodeSize hc => exact ⟨s, (decodeAnswersTheEnvelope s).2 hc⟩
  | feedSize hc => exact ⟨s, execRsmFeed_of_rxCount_ne hc⟩
  | feedSequence hc h =>
    rcases h with hs | hs | ⟨hs, hi⟩
    · exact ⟨s, execRsmFeed_failed hc hs⟩
    · exact ⟨s.setRsmState .failed, execRsmFeed_complete hc hs⟩
    · exact ⟨s.setRsmState .failed, execRsmFeed_unexpected hc hs hi.symm⟩
  | startCount a b h => exact ⟨s, execRsmStart_of_maxFrames_lt s b h⟩
  | configRange a b c d hv h => exact ⟨s, execCfgSet_of_outOfRange c hv h⟩
  | verifySelect a h =>
    obtain ⟨hselect, _, hbuilt, _⟩ := verifyAnswersTheVerdict a s
    exact ⟨s, h.elim hselect fun ⟨ha, hv⟩ => hbuilt ha hv⟩
  | txGate a h => exact ⟨s, h.elim (execTxRead_of_not_txValid a) (execTxRead_of_size_le s)⟩
  | rxGate a h => exact ⟨s, (min_le_iff.mp h).elim (execRxRead_of_rxCount_le a) (execRxRead_of_size_le s)⟩
  | feedIdle hc hs => exact ⟨s, execRsmFeed_idle hc hs⟩
  | accGate a h =>
    rcases h with hs | hnext | hsize
    · exact ⟨s, execAccRead_of_ne_complete a hs⟩
    · exact ⟨s, execAccRead_of_accepted_le hnext⟩
    · exact ⟨s, execAccRead_of_size_le s hsize⟩
  | configTwice a b c d hv => exact ⟨s, execCfgSet_of_cfgValid a b c d hv⟩
  | lookupGroup a h => exact ⟨s, h.elim (execMuxLookup_of_not_cfgValid a) (execMuxLookup_of_nGroups_le s)⟩

theorem TableError.status_eq (h : TableError s i e) (ht : exec i s = .next t) : t.status = e.code := by
  obtain ⟨u, hu⟩ := h.exec_eq
  obtain rfl := Host.Outcome.next.inj (hu.symm.trans ht)
  exact u.raise_status e

end TableError

/-! ### Where the table has no entry, `OK` is answered -/

/-- An id that names no group is beyond the ids (43_command_dispatch_mux R180). -/
theorem le_toNat_of_groupOfId_eq_none {a : Byte} (h : groupOfId a = none) : 9 ≤ a.toNat := by
  by_contra hlt
  have hid := groupId_of_getElem? (List.getElem?_eq_getElem (i := a.toNat) (by simpa using hlt))
  exact nomatch h.symm.trans (groupOfId_of_toNat_eq hid)

/-- The outcome `o` of instruction `i` in state `s` is a next state with an `OK` response, or one for which the table has
an entry. -/
def OkOrTableError (s : State) (i : Instr) (o : Host.Outcome State Fault Refusal) : Prop :=
  ∀ t, o = .next t → t.status = 0#8 ∨ ∃ e, TableError s i e

namespace OkOrTableError

variable {i : Instr} {s u : State} {e : ErrorKind} {x y : Host.Outcome State Fault Refusal}

theorem ok {r : Response} (h : r.status = 0#8) : OkOrTableError s i (.next (u.respond r)) :=
  fun _ ht => .inl (Host.Outcome.next.inj ht ▸ (status_of_rsp rfl).trans h)

theorem entry (h : TableError s i e) : OkOrTableError s i x := fun _ _ => .inr ⟨e, h⟩

theorem fault (f : Fault) : OkOrTableError s i (.fault f) := nofun

theorem ite {c : Prop} [Decidable c] (hx : c → OkOrTableError s i x) (hy : ¬c → OkOrTableError s i y) :
    OkOrTableError s i (if c then x else y) := by
  split
  · next h => exact hx h
  · next h => exact hy h

theorem execCksVerify (a : Byte) : OkOrTableError s (.cksVerify a) (execCksVerify a s) := by
  refine .ite (fun h => .entry (.verifySelect a (.inl h))) fun hlt => .ite (fun hzero => ?_) fun hne => ?_
  · subst hzero
    exact .ite (fun _ => .ok rfl) fun hc => .entry (.verifySize hc)
  · have hone : a.toNat = 1 := by bv_omega
    exact .ite (fun _ => .ok rfl) fun hv =>
      .entry (.verifySelect a (.inr ⟨hone, Bool.eq_false_of_not_eq_true hv⟩))

theorem execRsmFeed : OkOrTableError s .rsmFeed (execRsmFeed s) := by
  refine .ite (fun hc => .entry (.feedSize hc)) fun hc => ?_
  have hc : s.rxCount.toNat = 13 := not_not.mp hc
  split
  · next hs => exact .entry (.feedIdle hc hs)
  · next hs => exact .entry (.feedSequence hc (.inl hs))
  · next hs => exact .entry (.feedSequence hc (.inr (.inl hs)))
  · next hs =>
    refine .ite (fun hi => .entry (.feedSequence hc (.inr (.inr ⟨hs, ?_⟩)))) fun _ =>
      .ite (fun _ => .fault _) fun _ => .ok rfl
    rw [Bool.not_eq_true', ← Bool.not_eq_true, indexExpected_iff] at hi
    tauto

theorem execCfgSet (a b c d : Byte) : OkOrTableError s (.cfgSet a b c d) (execCfgSet a b c d s) := by
  refine .ite (fun hv => .entry (.configTwice a b c d hv)) fun hv =>
    .ite (fun h => .entry (.configRange a b c d (Bool.eq_false_of_not_eq_true hv) ?_)) fun _ => .ok rfl
  rwa [ne_eq, undefinedEnableBits_eq_zero_iff, Nat.not_lt] at h

theorem execMuxLookup (a : Byte) : OkOrTableError s (.muxLookup a) (execMuxLookup a s) := by
  refine .ite (fun _ => ?_) fun hv => .entry (.lookupGroup a (.inl (Bool.eq_false_of_not_eq_true hv)))
  split
  · exact .ok rfl
  · next hg => exact .entry (.lookupGroup a (.inr (le_toNat_of_groupOfId_eq_none hg)))

theorem exec (i : Instr) (s : State) : OkOrTableError s i (exec i s) := by
  cases i with
  | cksVerify a => exact execCksVerify a
  | txRead a => exact .ite (fun _ => .ok rfl) fun h => .entry (.txGate a (by simpa [imp_iff_not_or] using h))
  | pktDecode => exact .ite (fun _ => .ok rfl) fun hc => .entry (.decodeSize hc)
  | rxRead a => exact .ite (fun _ => .ok rfl) fun h => .entry (.rxGate a (Nat.not_lt.mp h))
  | rsmStart a b => exact .ite (fun h => .entry (.startCount a b h)) fun _ => .ok rfl
  | rsmFeed => exact execRsmFeed
  | accRead a => exact .ite (fun _ => .ok rfl) fun h => .entry (.accGate a (by simpa [imp_iff_not_or, State.accReadable] using h))
  | cfgSet a b c d => exact execCfgSet a b c d
  | muxLookup a => exact execMuxLookup a
  | sysNop | sysReset | cksCompute | pktEncode | rxClear | rxPush | rsmStatus | cfgRead => exact .ok rfl

end OkOrTableError

/-- The status of an answer, read off the table. -/
theorem exec_status_iff {i : Instr} {s t : State} (h : exec i s = .next t) (e : ErrorKind) :
    t.status = e.code ↔ TableError s i e := by
  refine ⟨fun hstatus => ?_, fun he => he.status_eq h⟩
  rcases OkOrTableError.exec i s t h with hok | ⟨e', he⟩
  · exact absurd (hstatus.symm.trans hok) e.code_ne_zero
  · exact ErrorKind.code_injective ((he.status_eq h).symm.trans hstatus) ▸ he

/-- Settles O45: each column of the table, and the five statuses of a response. -/
theorem errorsAreThoseOfTheTable : Obligations.ErrorsAreThoseOfTheTable := fun _ _ _ h =>
  ⟨(exec_status_iff h .frameFormatError).trans tableError_frameFormatError_iff,
    (exec_status_iff h .sequenceError).trans tableError_sequenceError_iff,
    (exec_status_iff h .configurationError).trans tableError_configurationError_iff,
    (exec_status_iff h .usageError).trans tableError_usageError_iff,
    (exec_hasResponse h).2.1⟩

end Sys2Proof.Machine

/-! ## Reset, progress and unwritten bytes (70_reset_and_hazards R240, R241, R257) -/

namespace Sys2Proof.Machine

/-- Settles O2: the step is the reset of the state without the sample. -/
theorem rstSampleResetsAndTakesNoWord : Obligations.RstSampleResetsAndTakesNoWord :=
  fun s _ rest hi hr => ⟨_, step_of_rst hi hr, assertReset_sameRegisters_reset (s.setInputs rest), rfl, rfl⟩

/-- Settles O43: a step stops only where the instruction it executes does, and under the invariants none does. -/
theorem stepNeverStops : Obligations.StepNeverStops := by
  intro s hinv
  rcases step_next_or_exec s with hnext | ⟨_, rest, i, _, _, _, _, hexec⟩
  · exact hnext
  · exact hexec ▸ (hinv.setInputs rest).exec_next i

/-- Where `OK` is answered the table of 60_exceptions R217 has no entry. -/
theorem not_tableError_of_status_ok {i : Instr} {s t : State} (h : exec i s = .next t) (hok : t.status = 0#8)
    (e : ErrorKind) : ¬TableError s i e :=
  fun he => e.code_ne_zero ((he.status_eq h).symm.trans hok)

section OpenGates

variable {s t : State} {a : Byte}

theorem txGate_of_status_ok (h : exec (.txRead a) s = .next t) (hok : t.status = 0#8) :
    s.txValid = true ∧ a.toNat < 13 := by
  simpa using mt (TableError.txGate a) (not_tableError_of_status_ok h hok _)

theorem rxGate_of_status_ok (h : exec (.rxRead a) s = .next t) (hok : t.status = 0#8) :
    a.toNat < s.rxCount.toNat ∧ a.toNat < 13 :=
  lt_min_iff.mp (not_le.mp (mt (TableError.rxGate a) (not_tableError_of_status_ok h hok _)))

theorem accGate_of_status_ok (h : exec (.accRead a) s = .next t) (hok : t.status = 0#8) :
    s.rsmState = .complete ∧ a.toNat < 7 * s.rsmNext.toNat := by
  have hgate := mt (TableError.accGate a) (not_tableError_of_status_ok h hok _)
  simp only [not_or, not_not, not_le] at hgate
  obtain ⟨hcomplete, hlt, _⟩ := hgate
  exact ⟨hcomplete, hlt⟩

end OpenGates

/-- Settles O48: an answer `OK` puts the index inside the gate of its buffer (20_memory R53 to R55), and the invariants
have every byte there written. -/
theorem onlyWrittenBytesAreRead : Obligations.OnlyWrittenBytesAreRead := by
  intro s t a hinv
  refine ⟨fun h hok => ?_, fun h hok => ?_, fun h hok => ?_⟩
  · obtain ⟨hvalid, hlt⟩ := txGate_of_status_ok h hok
    exact Option.isSome_iff_exists.mp (hinv.tx_written hvalid _ hlt)
  · obtain ⟨hcount, hlt⟩ := rxGate_of_status_ok h hok
    exact Option.isSome_iff_exists.mp (hinv.rx_written _ hlt hcount)
  · obtain ⟨hcomplete, hlt⟩ := accGate_of_status_ok h hok
    exact Option.isSome_iff_exists.mp (hinv.acc_written (.inr hcomplete) _ hlt)

end Sys2Proof.Machine
